-- ==== Sys2Proof/Word.lean ====
section
/-! DEFINITION. The word types of the AQ316 model and the fixed-size table that its
numbered blocks (ports, channels, generators, watches) are held in. -/

namespace Sys2Proof

/-- One byte on a host port. -/
abbrev Byte := BitVec 8

/-- A 12-bit conversion code, 0 to 4095 (00_scope.md, "Code"). -/
abbrev Code := BitVec 12

/-- A timebase value: 32 bits, wrapping (R90). -/
abbrev Timestamp := BitVec 32

/-- A host, numbered as the port it is wired to (R157). -/
abbrev HostId := Fin 3

/-- An SPI port: 0 or 1 (R157). -/
abbrev SpiPort := Fin 2

/-- A channel, 0 to 15. -/
abbrev ChannelId := Fin 16

/-- A trigger generator, TG0 to TG3. -/
abbrev GeneratorId := Fin 4

/-- A watch, W0 to W7. -/
abbrev WatchId := Fin 8

/-- An external trigger pin, TRIG0 or TRIG1. -/
abbrev PinId := Fin 2

/-- `n` cells numbered 0 to n - 1, as plain data. -/
structure Table (n : Nat) (α : Type) where
  cells : List α
  size : cells.length = n
deriving DecidableEq, Repr

/-- A table with one value in every cell. -/
def Table.make (n : Nat) {α : Type} (a : α) : Table n α :=
  ⟨List.replicate n a, List.length_replicate⟩

/-- The cell of a number. -/
def Table.get {n : Nat} {α : Type} (t : Table n α) (i : Fin n) : α :=
  t.cells[i.val]'(by rw [t.size]; exact i.isLt)

/-- The table with one cell replaced. -/
def Table.put {n : Nat} {α : Type} (t : Table n α) (i : Fin n) (a : α) : Table n α :=
  ⟨t.cells.set i.val a, by rw [List.length_set, t.size]⟩

/-- The table with every cell changed by one function. -/
def Table.map {n : Nat} {α : Type} (t : Table n α) (f : α → α) : Table n α :=
  ⟨t.cells.map f, by rw [List.length_map, t.size]⟩

end Sys2Proof
end

