-- ==== Sys2Proof/Syntax.lean ====
section
/-! DEFINITION. The commands and events of the AQ316: one constructor of `Instr` for each row of
spec/opcode_table.json, with the row's operands. A row's meaning is in Machine/. -/

namespace Sys2Proof

/-- An analog input and the reference it is measured against, both in one unit of voltage
(R53 uses only their ratio). -/
structure AnalogInput where
  vin : Int
  refin : Nat
deriving DecidableEq, Repr

/-- How a frame begins: CS of an SPI port falls (R161), or a START on the I2C bus is followed by an
address and a direction bit, true for R (R167, R168). -/
inductive FrameStart where
  | csFall (port : SpiPort)
  | start (address : BitVec 7) (read : Bool)
deriving DecidableEq, Repr

/-- How a frame ends: CS of an SPI port rises, after a partial byte or not (R161); a STOP on the I2C
bus; or a repeated START with an address and a direction bit (R168). -/
inductive FrameStop where
  | csRise (port : SpiPort) (partialByte : Bool)
  | stop
  | repeatedStart (address : BitVec 7) (read : Bool)
deriving DecidableEq, Repr

/-- What follows the report of a completion (R57): the watch unit's share, the Job Table's share, and
the selection, which comes after the Job Table's share. The two shares stand in no order. -/
inductive CompletionShare where
  | watch
  | job
  | select
deriving DecidableEq, Repr

/-- The order in which one edge reaches the generators that wait for it and the jobs bound to its pin
(R29, R104 leave it open): the generators of `before`, then the pin's jobs, then the generators of
`after`, then the remaining generators in ascending number. -/
structure EdgeOrder where
  before : List GeneratorId
  after : List GeneratorId
deriving DecidableEq, Repr

/-- What the part samples at a device reset: the strap pins (R90, R167, R175) and the levels of TRIG0
and TRIG1 at the release of RESET (R104). -/
structure Straps where
  tbsel : BitVec 2
  adr : BitVec 2
  trig0 : Bool
  trig1 : Bool
deriving DecidableEq, Repr

/-- The rows of spec/opcode_table.json. A write-type command carries the parameter bytes of its
frame; a read-type command carries the parameter byte at which it is judged. -/
inductive Instr where
  | attach (host : HostId) (params : List Byte)
  | detach (host : HostId) (params : List Byte)
  | setHostOptions (host : HostId) (params : List Byte)
  | readStatus (host : HostId)
  | submitJob (host : HostId) (params : List Byte)
  | withdrawJob (host : HostId) (params : List Byte)
  | readJob (host : HostId) (tag : Byte)
  | drainResults (host : HostId) (maximum : Byte)
  | readNotices (host : HostId) (maximum : Byte)
  | claimChannel (host : HostId) (params : List Byte)
  | releaseChannel (host : HostId) (params : List Byte)
  | configureChannel (host : HostId) (params : List Byte)
  | readChannel (host : HostId) (channel : Byte)
  | claimTrigger (host : HostId) (params : List Byte)
  | releaseTrigger (host : HostId) (params : List Byte)
  | programTrigger (host : HostId) (params : List Byte)
  | startTrigger (host : HostId) (params : List Byte)
  | stopTrigger (host : HostId) (params : List Byte)
  | readTrigger (host : HostId) (generator : Byte)
  | setWatch (host : HostId) (params : List Byte)
  | clearWatch (host : HostId) (params : List Byte)
  | readWatch (host : HostId) (watch : Byte)
  | frameBegin (how : FrameStart)
  | frameEnd (how : FrameStop)
  | i2cByteRefused (byte : Byte)
  | readPhaseBegin
  | recordTransferred (host : HostId) (ack : Bool)
  | noticeTransferred (host : HostId) (ack : Bool)
  | discardCountTransferred (host : HostId) (ack : Bool)
  | timebaseTick
  | triggerDelayExpiry (generator : GeneratorId)
  | triggerPeriodExpiry (generator : GeneratorId)
  | leaseTimerExpiry (host : HostId)
  | staleIntervalReached (host : HostId)
  | trigEdge (pin : PinId) (level : Bool) (order : EdgeOrder)
  | samplingPhaseEnd (input : AnalogInput)
  | conversionComplete (shares : List CompletionShare)
  | deviceReset (straps : Straps)
  | byteTaken (host : HostId) (byte : Byte)
  | replyByteTransferred (host : HostId) (ack : Bool)
deriving DecidableEq, Repr

end Sys2Proof
end

