-- ==== Sys2Proof/Decode.lean ====
section
/-! DEFINITION. The command that a table word spells. spec/opcode_table.json gives no bits for any of
its 40 rows, so no word spells one. The command codes of R177, which are bytes of a frame and not bits
of a row, are read by Machine/Formats.lean. -/

namespace Sys2Proof

/-- No row of the table gives bits: every word is answered `none`. -/
def decodeTableWord (_nbits _w : Nat) : Option Instr := none

end Sys2Proof
end

