-- ==== Sys2Proof/Config.lean ====
section
/-! DEFINITION. What the part fixes (sizes, identities) and the one value the spec leaves open. -/

namespace Sys2Proof.Config

/-- The slots of the Job Table (R1). -/
def jobSlots : Nat := 24

/-- The slots each host is guaranteed (R15). -/
def slotGuarantee : Nat := 4

/-- The places of a result queue (R72). -/
def resultPlaces : Nat := 64

/-- The places of a notice queue (R128). -/
def noticePlaces : Nat := 16

/-- The ticks of one lease unit (R142). -/
def leaseUnit : Nat := 1024

/-- The part identity that Read Status reports (R155). -/
def partIdentity : Byte := 0x3A

/-- The revision that Read Status reports (R155). -/
def revision : Byte := 1

/-- The five upper bits of the I2C target address (R167). -/
def i2cBase : BitVec 5 := 0b10100

/-- FREE VALUE (log entry 14): the code of an input measured against a reference of 0 V, for which
R53 states no result. Nothing constrains it. -/
opaque codeWithoutReference : Int → Code

end Sys2Proof.Config
end

