-- ==== Sys2Proof/Machine/State.lean ====
section
/-! DEFINITION. The whole state of the AQ316 as plain data, block by block in the order of the data
sheet, and the state after device reset. -/

namespace Sys2Proof.Machine

/-- One value for each priority class (R4). -/
structure PerClass (α : Type) where
  urgent : α
  normal : α
  background : α
deriving DecidableEq, Repr

/-- The kind of a job, of its conversions and of its records (R3). -/
inductive JobKind where
  | convert
  | compare
deriving DecidableEq, Repr

/-- The priority classes, highest first (R4). -/
inductive JobClass where
  | urgent
  | normal
  | background
deriving DecidableEq, Repr

/-- Where a job's results go (R3). -/
inductive Destination where
  | queue
  | table
deriving DecidableEq, Repr

/-- The edge setting of a pin source (R5). -/
inductive Edge where
  | rise
  | fall
  | either
deriving DecidableEq, Repr

/-- What starts a pass (R5). -/
inductive Source where
  | now
  | generator (g : GeneratorId)
  | pin (p : PinId) (edge : Edge)
  | watch (w : WatchId)
deriving DecidableEq, Repr

/-- How a job treats an arrival that finds it READY or in a pass (R6). -/
inductive RetriggerPolicy where
  | ignore
  | hold
  | restart
deriving DecidableEq, Repr

/-- The states of an occupied slot (section 1.4). -/
inductive JobState where
  | armed
  | ready
  | running
  | suspended
deriving DecidableEq, Repr

/-- A job's name: its owner and the owner's tag (R2). -/
structure JobId where
  owner : HostId
  tag : Byte
deriving DecidableEq, Repr

/-- One entry of a job's list (R9). A CONVERT entry keeps the threshold 0. -/
structure Entry where
  channel : ChannelId
  threshold : Code
deriving DecidableEq, Repr

/-- The record of an occupied job slot (section 1.2). -/
structure Job where
  id : JobId
  kind : JobKind
  cls : JobClass
  dest : Destination
  source : Source
  policy : RetriggerPolicy
  passLimit : Nat
  notifyPass : Bool
  entries : List Entry
  state : JobState
  cursor : Nat := 0
  redo : Bool := false
  restarted : Bool := false
  overrunReported : Bool := false
  passesDone : Nat := 0
  pendingTrigger : Bool := false
  overruns : Nat := 0
  produced : Nat := 0
  discarded : Nat := 0
deriving DecidableEq, Repr

/-- A channel's conversion rate (R54). -/
inductive Rate where
  | normal
  | fast
deriving DecidableEq, Repr

/-- The phase of the conversion in flight (R52). The sample timestamp and the held sample are present
in CONVERTING only (R56). -/
inductive ConversionPhase where
  | sampling
  | converting (timestamp : Timestamp) (held : AnalogInput)
deriving DecidableEq, Repr

/-- The converter context (section 3.1). -/
structure Context where
  job : JobId
  index : Nat
  channel : ChannelId
  kind : JobKind
  threshold : Option Code
  setting : BitVec 2
  rate : Option Rate
  phase : ConversionPhase
deriving DecidableEq, Repr

/-- The completion report (R57). -/
structure Report where
  job : JobId
  index : Nat
  channel : ChannelId
  kind : JobKind
  value : Code
  timestamp : Timestamp
  fast : Bool
deriving DecidableEq, Repr

/-- A completion whose report the converter has handed on, with what is still to follow it in `left`
(R57). The events that come together with the completion are taken meanwhile (log entry 6). -/
structure Completion where
  report : Report
  left : List CompletionShare
deriving DecidableEq, Repr

/-- One entry of the Channel Table (section 3.6). -/
structure Channel where
  setting : BitVec 2 := 1
  rate : Rate := .normal
  owner : Option HostId := none
  valid : Bool := false
  code : Code := 0
  timestamp : Timestamp := 0
  producer : HostId := 0
  tag : Byte := 0
  sequence : BitVec 16 := 0
deriving DecidableEq, Repr

/-- A result record (section 4.1). -/
structure ResultRecord where
  tag : Byte
  index : BitVec 4
  channel : ChannelId
  kind : JobKind
  redone : Bool
  last : Bool
  fast : Bool
  restarted : Bool
  value : Code
  pass : BitVec 16
  timestamp : Timestamp
  check : Byte
deriving DecidableEq, Repr

/-- A host's result queue (section 4.2). -/
structure ResultQueue where
  records : List ResultRecord := []
  accounts : PerClass (Option Nat) := ⟨none, none, none⟩
  staleMark : Bool := false
  discarded : Nat := 0
deriving DecidableEq, Repr

/-- The mode of a trigger generator (section 5.2). -/
inductive TriggerMode where
  | once
  | periodic
  | burst
deriving DecidableEq, Repr

/-- What starts a generator's run (section 5.2); `rising` is RISE, its negation FALL. -/
inductive TriggerStart where
  | command
  | external (pin : PinId) (rising : Bool)
deriving DecidableEq, Repr

/-- The state of a trigger generator (section 5.2). -/
inductive GeneratorState where
  | stopped
  | waitingEdge
  | delaying
  | running
deriving DecidableEq, Repr

/-- A trigger generator (section 5.2). -/
structure Generator where
  owner : Option HostId := none
  mode : TriggerMode := .once
  delay : BitVec 24 := 0
  period : BitVec 24 := 0
  fraction : Byte := 0
  burst : Byte := 0
  start : TriggerStart := .command
  state : GeneratorState := .stopped
  firings : BitVec 16 := 0
  accumulator : Nat := 0
  remaining : Option Nat := none
deriving DecidableEq, Repr

/-- The sense of a watch's window (section 6.1). -/
inductive Zone where
  | inside
  | outside
deriving DecidableEq, Repr

/-- The state of a watch (section 6.1). -/
inductive WatchState where
  | unknown
  | clear
  | alert
deriving DecidableEq, Repr

/-- A watch record (section 6.1). -/
structure Watch where
  owner : Option HostId := none
  channel : ChannelId := 0
  low : Code := 0
  high : Code := 0
  zone : Zone := .inside
  hysteresis : Byte := 0
  clearNotices : Bool := false
  state : WatchState := .unknown
deriving DecidableEq, Repr

/-- The kinds of notice (R126). -/
inductive NoticeKind where
  | jobDone
  | passDone
  | overrun
  | resultsDiscarded
  | watchAlert
  | watchClear
  | triggerEnded
  | hostLeft
  | lost
deriving DecidableEq, Repr

/-- A notice (R126). -/
structure Notice where
  kind : NoticeKind
  subject : Byte
  detail : BitVec 16
  timestamp : Timestamp
deriving DecidableEq, Repr

/-- A host's notice queue (section 7.2). -/
structure NoticeQueue where
  notices : List Notice := []
  lost : Nat := 0
deriving DecidableEq, Repr

/-- How a result queue meets a lack of space (R74, R76). -/
inductive FullPolicy where
  | wait
  | discard
deriving DecidableEq, Repr

/-- The host options with their defaults (R142). -/
structure HostOptions where
  watermark : Nat := 16
  staleInterval : Nat := 0
  fullPolicy : FullPolicy := .wait
  noticeInterrupt : Bool := true
  leaseLength : Nat := 0
deriving DecidableEq, Repr

/-- A host's standing (R140). -/
inductive SessionState where
  | detached
  | attached
  | lapsed
deriving DecidableEq, Repr

/-- A session record (section 8.1); `lease` is the lease timer. -/
structure Session where
  state : SessionState := .detached
  options : HostOptions := {}
  lease : Option Nat := none
deriving DecidableEq, Repr

/-- The outcome of a command (R180). -/
inductive CmdOutcome where
  | ok
  | unknownCommand
  | frameError
  | badParam
  | notAttached
  | lapsed
  | noSlot
  | tagInUse
  | noSuchJob
  | notOwner
  | heldByOther
  | wrongState
deriving DecidableEq, Repr

/-- The commands of a frame (R177). -/
inductive Command where
  | attach
  | detach
  | setHostOptions
  | readStatus
  | submitJob
  | withdrawJob
  | readJob
  | drainResults
  | readNotices
  | claimChannel
  | releaseChannel
  | configureChannel
  | readChannel
  | claimTrigger
  | releaseTrigger
  | programTrigger
  | startTrigger
  | stopTrigger
  | readTrigger
  | setWatch
  | clearWatch
  | readWatch
deriving DecidableEq, Repr

/-- The phase of a port (R158). -/
inductive PortPhase where
  | idle
  | command
  | parameters
  | reply
  | discarding
deriving DecidableEq, Repr

/-- The read phase of an I2C frame (R172): `ended` is a read phase that a NACK has ended (log
entry 11). -/
inductive ReadPhase where
  | notBegun
  | begun
  | ended
deriving DecidableEq, Repr

/-- What a reply carries (R165): bytes fixed at judgement; the Read Status reply with the
discarded-records count it reports; or a count of queue members sent from the head of the queue. -/
inductive ReplyBody where
  | fixed (bytes : List Byte)
  | status (bytes : List Byte) (reported : Nat)
  | drain (count : Nat)
  | notices (count : Nat)
deriving DecidableEq, Repr

/-- A reply and the number of its bytes transferred (section 9.1). -/
structure Reply where
  body : ReplyBody
  transferred : Nat := 0
deriving DecidableEq, Repr

/-- A port record (section 9.1). `params` holds the parameter bytes whose count the spec names (log
entry 10); `statusSent` and `lastSent` are the model's own (log entry 11). -/
structure Port where
  phase : PortPhase := .idle
  statusCapture : Option Byte := none
  command : Option Byte := none
  params : List Byte := []
  required : Option Nat := none
  pendingOutcome : Option CmdOutcome := none
  reply : Option Reply := none
  readPhase : ReadPhase := .notBegun
  lastOutcome : CmdOutcome := .ok
  statusSent : Bool := false
  lastSent : Option Byte := none
deriving DecidableEq, Repr

/-- The state of the part, and the queue of commands and events that wait. -/
structure State where
  tbsel : BitVec 2
  adr : BitVec 2
  trigSample : Table 2 Bool
  timebase : Timestamp
  jobs : List Job
  ready : PerClass (List JobId)
  marker : PerClass (Option JobId)
  rotation : PerClass HostId
  converter : Option Context
  completion : Option Completion
  channels : Table 16 Channel
  generators : Table 4 Generator
  watches : Table 8 Watch
  results : Table 3 ResultQueue
  notices : Table 3 NoticeQueue
  sessions : Table 3 Session
  ports : Table 3 Port
  pending : List Instr
deriving DecidableEq, Repr

/-- Faults: none. No command and no event of the spec stops the part (log entry 17), so nothing
raises one; an empty type is the strongest way to say so. -/
inductive Fault where
deriving DecidableEq, Repr

/-- Refusals. `notModelled` is raised by `exec` alone, for a row without a meaning (safe: the machine
stops where the part goes on). No row of this model is without one. -/
inductive Refusal where
  | notModelled (mnemonic : String)
deriving DecidableEq, Repr

/-- The part after device reset, with the straps and pin levels then sampled (R1, R51, R52, R60, R89,
R92, R104, R112, R139, R140, R175) and an empty queue. -/
def State.afterReset (straps : Straps) : State where
  tbsel := straps.tbsel
  adr := straps.adr
  trigSample := ((Table.make 2 false).put 0 straps.trig0).put 1 straps.trig1
  timebase := 0
  jobs := []
  ready := ⟨[], [], []⟩
  marker := ⟨none, none, none⟩
  rotation := ⟨2, 2, 2⟩
  converter := none
  completion := none
  channels := Table.make 16 {}
  generators := Table.make 4 {}
  watches := Table.make 8 {}
  results := Table.make 3 {}
  notices := Table.make 3 {}
  sessions := Table.make 3 {}
  ports := Table.make 3 {}
  pending := []

/-- The machine right after reset. DESIGN CHOICE (log entry 1): the straps read 0 and both pins low. -/
def State.reset : State := State.afterReset ⟨0, 0, false, false⟩

end Sys2Proof.Machine
end

