-- ==== Sys2Proof/Machine/Formats.lean ====
section
/-! DEFINITION. Byte order, the codes of named values, command codes and lengths, and the layout of
records on the wire (chapter 10). -/

namespace Sys2Proof.Machine

/-- A number as one byte of a reply. -/
def byteOf (n : Nat) : Byte := BitVec.ofNat 8 n

/-- The unsigned number of a field's bytes, most significant byte first (R176). -/
def beNat (bytes : List Byte) : Nat := bytes.foldl (fun n b => 256 * n + b.toNat) 0

/-- A number as a field of `width` bytes, most significant byte first (R176). -/
def beBytes : Nat → Nat → List Byte
  | 0, _ => []
  | width + 1, n => byteOf (n / 256 ^ width) :: beBytes width n

/-- The parameter field at an offset and of a width (R178), as the whole number it holds. -/
def field (params : List Byte) (offset width : Nat) : Nat := beNat ((params.drop offset).take width)

/-- A flag as a byte: 0 clear, 1 set (R176). -/
def boolByte (b : Bool) : Byte := if b then 1 else 0

/-- The named value of a code, or `none` outside the defined set (R176). -/
def ofCode {α : Type} (values : List α) (code : α → Byte) (n : Nat) : Option α :=
  values.find? fun a => (code a).toNat == n

def JobKind.code : JobKind → Byte
  | .convert => 0
  | .compare => 1

def JobKind.ofCode : Nat → Option JobKind := Machine.ofCode [.convert, .compare] JobKind.code

def JobClass.code : JobClass → Byte
  | .urgent => 0
  | .normal => 1
  | .background => 2

def JobClass.ofCode : Nat → Option JobClass :=
  Machine.ofCode [.urgent, .normal, .background] JobClass.code

def Destination.code : Destination → Byte
  | .queue => 0
  | .table => 1

def Destination.ofCode : Nat → Option Destination := Machine.ofCode [.queue, .table] Destination.code

def RetriggerPolicy.code : RetriggerPolicy → Byte
  | .ignore => 0
  | .hold => 1
  | .restart => 2

def RetriggerPolicy.ofCode : Nat → Option RetriggerPolicy :=
  Machine.ofCode [.ignore, .hold, .restart] RetriggerPolicy.code

def JobState.code : JobState → Byte
  | .armed => 0
  | .ready => 1
  | .running => 2
  | .suspended => 3

def Edge.code : Edge → Byte
  | .rise => 0
  | .fall => 1
  | .either => 2

def Edge.ofCode : Nat → Option Edge := Machine.ofCode [.rise, .fall, .either] Edge.code

def Rate.code : Rate → Byte
  | .normal => 0
  | .fast => 1

def Rate.ofCode : Nat → Option Rate := Machine.ofCode [.normal, .fast] Rate.code

def TriggerMode.code : TriggerMode → Byte
  | .once => 0
  | .periodic => 1
  | .burst => 2

def TriggerMode.ofCode : Nat → Option TriggerMode :=
  Machine.ofCode [.once, .periodic, .burst] TriggerMode.code

def GeneratorState.code : GeneratorState → Byte
  | .stopped => 0
  | .waitingEdge => 1
  | .delaying => 2
  | .running => 3

def Zone.code : Zone → Byte
  | .inside => 0
  | .outside => 1

def Zone.ofCode : Nat → Option Zone := Machine.ofCode [.inside, .outside] Zone.code

def WatchState.code : WatchState → Byte
  | .unknown => 0
  | .clear => 1
  | .alert => 2

def SessionState.code : SessionState → Byte
  | .detached => 0
  | .attached => 1
  | .lapsed => 2

def FullPolicy.code : FullPolicy → Byte
  | .wait => 0
  | .discard => 1

def FullPolicy.ofCode : Nat → Option FullPolicy := Machine.ofCode [.wait, .discard] FullPolicy.code

/-- A flag of two codes, 0 and 1: notice interrupt, clear notices, notify PASS (R176, R179). -/
def boolOfCode : Nat → Option Bool := Machine.ofCode [false, true] boolByte

/-- A host number, or 0xFF for none (R176). -/
def ownerByte : Option HostId → Byte
  | some h => byteOf h.val
  | none => 0xFF

/-- The outcome codes (R180). -/
def CmdOutcome.code : CmdOutcome → Byte
  | .ok => 0
  | .unknownCommand => 1
  | .frameError => 2
  | .badParam => 3
  | .notAttached => 4
  | .lapsed => 5
  | .noSlot => 6
  | .tagInUse => 7
  | .noSuchJob => 8
  | .notOwner => 9
  | .heldByOther => 10
  | .wrongState => 11

/-- The notice kind codes (R183). -/
def NoticeKind.code : NoticeKind → Byte
  | .jobDone => 1
  | .passDone => 2
  | .overrun => 3
  | .resultsDiscarded => 4
  | .watchAlert => 5
  | .watchClear => 6
  | .triggerEnded => 7
  | .hostLeft => 8
  | .lost => 9

/-- The source byte (R176). -/
def Source.byte : Source → Byte
  | .now => 0x00
  | .generator g => byteOf (0x10 + g.val)
  | .pin p _ => byteOf (0x20 + p.val)
  | .watch w => byteOf (0x30 + w.val)

/-- The edge byte of a source: 0 but for a pin (R179). -/
def Source.edgeByte : Source → Byte
  | .pin _ e => e.code
  | _ => 0

/-- The source of a source byte and an edge byte: none outside the defined source bytes, or for a pin
with an edge that is none of RISE, FALL and EITHER (R13, R176, R179). -/
def Source.ofBytes (byte edge : Nat) : Option Source :=
  match byte with
  | 0x00 => some .now
  | 0x10 => some (.generator 0)
  | 0x11 => some (.generator 1)
  | 0x12 => some (.generator 2)
  | 0x13 => some (.generator 3)
  | 0x20 => (Edge.ofCode edge).map (.pin 0)
  | 0x21 => (Edge.ofCode edge).map (.pin 1)
  | 0x30 => some (.watch 0)
  | 0x31 => some (.watch 1)
  | 0x32 => some (.watch 2)
  | 0x33 => some (.watch 3)
  | 0x34 => some (.watch 4)
  | 0x35 => some (.watch 5)
  | 0x36 => some (.watch 6)
  | 0x37 => some (.watch 7)
  | _ => none

/-- A generator's start byte, pin byte and edge byte (R96, R176): pin and edge are 0 for COMMAND. -/
def TriggerStart.bytes : TriggerStart → List Byte
  | .command => [0, 0, 0]
  | .external p rising => [1, byteOf p.val, if rising then 0 else 1]

/-- The command codes (R177). -/
def Command.code : Command → Byte
  | .attach => 0x01
  | .detach => 0x02
  | .setHostOptions => 0x03
  | .readStatus => 0x04
  | .submitJob => 0x10
  | .withdrawJob => 0x11
  | .readJob => 0x12
  | .drainResults => 0x18
  | .readNotices => 0x19
  | .claimChannel => 0x20
  | .releaseChannel => 0x21
  | .configureChannel => 0x22
  | .readChannel => 0x23
  | .claimTrigger => 0x30
  | .releaseTrigger => 0x31
  | .programTrigger => 0x32
  | .startTrigger => 0x33
  | .stopTrigger => 0x34
  | .readTrigger => 0x35
  | .setWatch => 0x40
  | .clearWatch => 0x41
  | .readWatch => 0x42

/-- Every command of the table of R177. -/
def Command.all : List Command :=
  [.attach, .detach, .setHostOptions, .readStatus, .submitJob, .withdrawJob, .readJob, .drainResults,
   .readNotices, .claimChannel, .releaseChannel, .configureChannel, .readChannel, .claimTrigger,
   .releaseTrigger, .programTrigger, .startTrigger, .stopTrigger, .readTrigger, .setWatch, .clearWatch,
   .readWatch]

/-- The command of a code; none for an undefined code (R177). -/
def Command.ofCode (b : Byte) : Option Command := Command.all.find? fun c => c.code == b

/-- The type of a command: read-type or write-type (R177). -/
def Command.isRead : Command → Bool
  | .readStatus => true
  | .readJob => true
  | .drainResults => true
  | .readNotices => true
  | .readChannel => true
  | .readTrigger => true
  | .readWatch => true
  | _ => false

/-- The parameter length of a command of one length (R177); Attach and Submit Job are read by
`requiredLength` and `greatestLength`. -/
def Command.paramLength : Command → Nat
  | .detach => 0
  | .readStatus => 0
  | .setHostOptions => 8
  | .configureChannel => 3
  | .programTrigger => 13
  | .setWatch => 9
  | _ => 1

/-- The length a Submit Job's entry count implies, once the count is taken (R177). -/
def submitLength (params : List Byte) : Option Nat :=
  (params[10]?).map fun n => 11 + 3 * n.toNat

/-- The required length, from the bytes taken so far; `none` while it is unknown (R158, R177). Of
Attach's two lengths it is the short one until a byte is taken and the long one then. -/
def requiredLength (c : Command) (params : List Byte) : Option Nat :=
  match c with
  | .attach => some (if params.isEmpty then 0 else 8)
  | .submitJob => submitLength params
  | c => some c.paramLength

/-- The greatest length a command can have, judged from the bytes taken so far (R170, R177). -/
def greatestLength (c : Command) (params : List Byte) : Nat :=
  match c with
  | .attach => 8
  | .submitJob => (submitLength params).getD 776
  | c => c.paramLength

/-- The length check of a frame (R159, R177). -/
def lengthOk (c : Command) (params : List Byte) : Bool :=
  requiredLength c params == some params.length

/-- Bytes 0 to 10 of a result record (R182). -/
def ResultRecord.body (r : ResultRecord) : List Byte :=
  let flags := (if r.redone then 1 else 0) + (if r.last then 2 else 0) + (if r.fast then 4 else 0)
    + (if r.restarted then 8 else 0) + (if r.kind = .compare then 128 else 0)
  [r.tag, byteOf (16 * r.index.toNat + r.channel.val), byteOf flags]
    ++ beBytes 2 r.value.toNat ++ beBytes 2 r.pass.toNat ++ beBytes 4 r.timestamp.toNat

/-- The sum of bytes, modulo 256. -/
def byteSum (bytes : List Byte) : Byte := bytes.foldl (· + ·) 0

/-- The record with the check byte that makes its twelve bytes sum to 0 modulo 256 (R70, R182). -/
def ResultRecord.sealed (r : ResultRecord) : ResultRecord := { r with check := -byteSum r.body }

/-- The twelve bytes of a result record (R182). -/
def ResultRecord.bytes (r : ResultRecord) : List Byte := r.body ++ [r.check]

/-- The eight bytes of a notice (R183). -/
def Notice.bytes (n : Notice) : List Byte :=
  [n.kind.code, n.subject] ++ beBytes 2 n.detail.toNat ++ beBytes 4 n.timestamp.toNat

/-- The host options block (section 10.3). -/
def HostOptions.bytes (o : HostOptions) : List Byte :=
  [byteOf o.watermark] ++ beBytes 3 o.staleInterval ++ [o.fullPolicy.code, boolByte o.noticeInterrupt]
    ++ beBytes 2 o.leaseLength

end Sys2Proof.Machine
end

