-- ==== Sys2Proof/Machine/Ops.lean ====
section
/-! DEFINITION. The named operations over the state: reading and replacing the records of each block,
the Job Table and its slot rule, notices, the lease timer, and the end of a frame. -/

namespace Sys2Proof.Machine

def PerClass.get {α : Type} (p : PerClass α) : JobClass → α
  | .urgent => p.urgent
  | .normal => p.normal
  | .background => p.background

def PerClass.put {α : Type} (p : PerClass α) (c : JobClass) (a : α) : PerClass α :=
  match c with
  | .urgent => { p with urgent := a }
  | .normal => { p with normal := a }
  | .background => { p with background := a }

def PerClass.map {α : Type} (p : PerClass α) (f : α → α) : PerClass α :=
  ⟨f p.urgent, f p.normal, f p.background⟩

/-- The hosts in ascending number. -/
def allHosts : List HostId := [0, 1, 2]

/-- The generators in ascending number. -/
def allGenerators : List GeneratorId := [0, 1, 2, 3]

/-- The watches in ascending number, the order in which the watch unit takes them (R121). -/
def allWatches : List WatchId := [0, 1, 2, 3, 4, 5, 6, 7]

/-! ### One record of a block -/

def State.session (s : State) (h : HostId) : Session := s.sessions.get h
def State.setSession (s : State) (h : HostId) (x : Session) : State :=
  { s with sessions := s.sessions.put h x }

def State.port (s : State) (h : HostId) : Port := s.ports.get h
def State.setPort (s : State) (h : HostId) (p : Port) : State := { s with ports := s.ports.put h p }

def State.resultQueue (s : State) (h : HostId) : ResultQueue := s.results.get h
def State.setResultQueue (s : State) (h : HostId) (q : ResultQueue) : State :=
  { s with results := s.results.put h q }

def State.noticeQueue (s : State) (h : HostId) : NoticeQueue := s.notices.get h
def State.setNoticeQueue (s : State) (h : HostId) (q : NoticeQueue) : State :=
  { s with notices := s.notices.put h q }

def State.channel (s : State) (c : ChannelId) : Channel := s.channels.get c
def State.setChannel (s : State) (c : ChannelId) (x : Channel) : State :=
  { s with channels := s.channels.put c x }

def State.generator (s : State) (g : GeneratorId) : Generator := s.generators.get g
def State.setGenerator (s : State) (g : GeneratorId) (x : Generator) : State :=
  { s with generators := s.generators.put g x }

def State.watch (s : State) (w : WatchId) : Watch := s.watches.get w
def State.setWatch (s : State) (w : WatchId) (x : Watch) : State :=
  { s with watches := s.watches.put w x }

def State.setJobs (s : State) (jobs : List Job) : State := { s with jobs := jobs }
def State.setReady (s : State) (c : JobClass) (ids : List JobId) : State :=
  { s with ready := s.ready.put c ids }
def State.setMarker (s : State) (c : JobClass) (m : Option JobId) : State :=
  { s with marker := s.marker.put c m }
def State.setRotation (s : State) (c : JobClass) (h : HostId) : State :=
  { s with rotation := s.rotation.put c h }
def State.setConverter (s : State) (c : Option Context) : State := { s with converter := c }
def State.setCompletion (s : State) (c : Option Completion) : State := { s with completion := c }

/-! ### The Job Table (R1, R2, R14, R15) -/

/-- The job of an owner and a tag (R2). -/
def State.findJob (s : State) (id : JobId) : Option Job := s.jobs.find? fun j => j.id == id

/-- One job's record changed. -/
def State.updateJob (s : State) (id : JobId) (f : Job → Job) : State :=
  s.setJobs (s.jobs.map fun j => if j.id = id then f j else j)

/-- The slots held by a host (R1). -/
def State.slotsHeld (s : State) (h : HostId) : Nat := s.jobs.countP fun j => j.id.owner == h

/-- The free slots (R1). -/
def State.freeSlots (s : State) : Nat := Config.jobSlots - s.jobs.length

/-- The unused guarantee of a host (R15). -/
def State.unusedGuarantee (s : State) (h : HostId) : Nat := Config.slotGuarantee - s.slotsHeld h

/-- The unused guarantees of the hosts other than `h`. -/
def State.othersGuarantee (s : State) (h : HostId) : Nat :=
  ((allHosts.filter (· != h)).map s.unusedGuarantee).sum

/-- The slot rule (R15). -/
def State.slotRuleAdmits (s : State) (h : HostId) : Bool :=
  if s.slotsHeld h < Config.slotGuarantee then decide (0 < s.freeSlots)
  else decide (s.othersGuarantee h + 1 ≤ s.freeSlots)

/-- The job becomes READY at the tail of its class's Ready List (R28). -/
def State.makeReady (s : State) (id : JobId) (c : JobClass) : State :=
  (s.updateJob id fun j => { j with state := .ready }).setReady c (s.ready.get c ++ [id])

/-- The converter is executing a conversion for the job. -/
def State.executes (s : State) (id : JobId) : Bool :=
  match s.converter with
  | some ctx => ctx.job == id
  | none => false

/-! ### Result queue accounts (R72, R73) -/

/-- The reserved places of a queue: the sum of the accounts present (R72, R73). -/
def ResultQueue.reserved (q : ResultQueue) : Nat :=
  q.accounts.urgent.getD 0 + q.accounts.normal.getD 0 + q.accounts.background.getD 0

/-- The free places of a queue (R72). -/
def ResultQueue.freePlaces (q : ResultQueue) : Nat :=
  Config.resultPlaces - q.records.length - q.reserved

/-- The host's reservation account of a class. -/
def State.account (s : State) (h : HostId) (c : JobClass) : Option Nat :=
  (s.resultQueue h).accounts.get c

def State.setAccount (s : State) (h : HostId) (c : JobClass) (a : Option Nat) : State :=
  s.setResultQueue h { s.resultQueue h with accounts := (s.resultQueue h).accounts.put c a }

/-! ### Notices (R129, R130) -/

/-- What a notice queue does with a post (the table of R130). A LOST notice carries the timestamp of
the notice behind it. -/
def NoticeQueue.take (q : NoticeQueue) (n : Notice) : NoticeQueue :=
  let free := Config.noticePlaces - q.notices.length
  if q.lost = 0 then
    if 1 ≤ free then { q with notices := q.notices ++ [n] } else { q with lost := 1 }
  else if 2 ≤ free then
    { notices := q.notices ++ [⟨.lost, 0, BitVec.ofNat 16 q.lost, n.timestamp⟩, n], lost := 0 }
  else { q with lost := min 255 (q.lost + 1) }

/-- A post to a host, stamped with the timebase (R126); it is taken only while the host's session is
ATTACHED (R129). -/
def State.post (s : State) (h : HostId) (kind : NoticeKind) (subject : Byte) (detail : Nat) : State :=
  if (s.session h).state = .attached then
    s.setNoticeQueue h ((s.noticeQueue h).take ⟨kind, subject, BitVec.ofNat 16 detail, s.timebase⟩)
  else s

/-! ### Sessions and leases (R141, R147) -/

/-- The outcome that refuses a host that is not ATTACHED (R141). -/
def State.sessionRefusal (s : State) (h : HostId) : Option CmdOutcome :=
  match (s.session h).state with
  | .attached => none
  | .detached => some .notAttached
  | .lapsed => some .lapsed

/-- The count a lease timer starts with; absent for lease length 0 (R147). -/
def HostOptions.leaseTicks (o : HostOptions) : Option Nat :=
  if o.leaseLength = 0 then none else some (o.leaseLength * Config.leaseUnit)

/-- The lease timer restarts (R147). -/
def State.restartLease (s : State) (h : HostId) : State :=
  s.setSession h { s.session h with lease := (s.session h).options.leaseTicks }

/-- Whether a frame of this outcome renews the lease (R147). -/
def CmdOutcome.renews (o : CmdOutcome) : Bool := o != .frameError && o != .unknownCommand

/-- The lease rule at a frame end: the session is the one the command has left (R147, R159). -/
def State.renewLease (s : State) (h : HostId) (o : CmdOutcome) : State :=
  if o.renews && (s.session h).state == .attached then s.restartLease h else s

/-! ### Frames (R157, R159) -/

/-- The outcome becomes the port's last outcome. -/
def State.recordOutcome (s : State) (h : HostId) (o : CmdOutcome) : State :=
  s.setPort h { s.port h with lastOutcome := o }

/-- The port returns to IDLE and discards the frame; the last outcome outlives it (R159). -/
def State.idlePort (s : State) (h : HostId) : State :=
  s.setPort h { lastOutcome := (s.port h).lastOutcome }

/-- A frame with an outcome ends: the outcome is recorded, the lease rule applied and the port IDLE
(R159). -/
def State.finishFrame (s : State) (h : HostId) (o : CmdOutcome) : State :=
  ((s.recordOutcome h o).renewLease h o).idlePort h

/-- The checks that the write-type commands share, in their order: frame length, session, parameters;
then the command's own (R61, R93, R113, R146). -/
def State.judge {α : Type} (s : State) (h : HostId) (lengthFits : Bool) (params : Option α)
    (act : α → CmdOutcome × State) : CmdOutcome × State :=
  if lengthFits then
    match s.sessionRefusal h, params with
    | some o, _ => (o, s)
    | none, none => (.badParam, s)
    | none, some a => act a
  else (.frameError, s)

end Sys2Proof.Machine
end

