-- ==== Sys2Proof/Machine/Flags.lean ====
section
/-! DEFINITION. The conditions derived from the state: AT_WATERMARK, the stale test, the interrupt
lines, the port status byte, and the widths and durations that the straps and settings fix. -/

namespace Sys2Proof.Machine

/-- AT_WATERMARK for a host's result queue (R82). -/
def State.atWatermark (s : State) (h : HostId) : Bool :=
  decide ((s.session h).options.watermark ≤ (s.resultQueue h).records.length)

/-- STALE for a host's result queue: it holds while the mark is set (R83). -/
def State.stale (s : State) (h : HostId) : Bool := (s.resultQueue h).staleMark

/-- The age of a sample timestamp, modulo 2^32 (R83, R90). -/
def State.age (s : State) (t : Timestamp) : Nat := (s.timebase - t).toNat

/-- Whether the head of a queue of records has reached the host's stale interval (R83). -/
def State.headReached (s : State) (h : HostId) (records : List ResultRecord) : Bool :=
  match records with
  | [] => false
  | r :: _ =>
    let interval := (s.session h).options.staleInterval
    decide (interval ≠ 0) && decide (interval ≤ s.age r.timestamp)

/-- The host's notice queue holds at least one notice (R128). -/
def State.holdsNotices (s : State) (h : HostId) : Bool := !(s.noticeQueue h).notices.isEmpty

/-- IRQh is asserted (R135). -/
def State.irqAsserted (s : State) (h : HostId) : Bool :=
  (s.session h).state == .attached &&
    (s.atWatermark h || s.stale h || (s.holdsNotices h && (s.session h).options.noticeInterrupt))

/-- The port status byte as it stands (R160, R180). -/
def State.statusByte (s : State) (h : HostId) : Byte :=
  byteOf ((if (s.session h).state = .attached then 128 else 0) + (if s.holdsNotices h then 64 else 0)
    + (if s.atWatermark h then 32 else 0) + (if s.stale h then 16 else 0)) ||| (s.port h).lastOutcome.code

/-- XIN periods per timebase tick (R90). -/
def State.tickDivider (s : State) : Nat := 4 * 2 ^ s.tbsel.toNat

/-- The I2C target address (R167). -/
def State.i2cAddress (s : State) : BitVec 7 := Config.i2cBase ++ s.adr

/-- The sampling phase of a setting, in converter cycles (R54). -/
def samplingCycles (setting : BitVec 2) : Nat := 4 * 2 ^ setting.toNat

/-- The conversion phase, in converter cycles (R54). -/
def convertingCycles (kind : JobKind) (rate : Rate) : Nat :=
  match kind, rate with
  | .convert, .normal => 14
  | .convert, .fast => 11
  | .compare, _ => 2

/-- A conversion from start to completion, in converter cycles (R54). -/
def Context.cycles (c : Context) : Nat :=
  samplingCycles c.setting + convertingCycles c.kind (c.rate.getD .normal)

end Sys2Proof.Machine
end

