-- ==== Sys2Proof/Machine/Operands.lean ====
section
/-! DEFINITION. The parameter forms of the commands (section 10.3): each reads the bytes of its frame
and answers `none` where the parameter check refuses them with BAD_PARAM. -/

namespace Sys2Proof.Machine

/-- A field that must lie below `n`. -/
def below (n value : Nat) : Option (Fin n) :=
  if h : value < n then some ⟨value, h⟩ else none

/-- A code field, 0 to 4095. -/
def codeField (value : Nat) : Option Code :=
  if value < 4096 then some (BitVec.ofNat 12 value) else none

/-- A tag field, 1 to 255 (R13, R24, R26). -/
def tagField (value : Nat) : Option Byte :=
  if value = 0 then none else some (byteOf value)

/-- The maximum count of Drain Results or Read Notices: 1 to `limit` (R85, R133). -/
def countField (limit value : Nat) : Option Nat :=
  if 1 ≤ value ∧ value ≤ limit then some value else none

/-- The host options block and its ranges (section 10.3, R143). -/
def HostOptions.parse (params : List Byte) : Option HostOptions := do
  let watermark := field params 0 1
  let leaseLength := field params 6 2
  let fullPolicy ← FullPolicy.ofCode (field params 4 1)
  let noticeInterrupt ← boolOfCode (field params 5 1)
  if 1 ≤ watermark ∧ watermark ≤ 64 ∧ leaseLength ≤ 16384 then
    some { watermark, staleInterval := field params 1 3, fullPolicy, noticeInterrupt, leaseLength }
  else none

/-- The options an Attach gives: the defaults in the short form (R143). -/
def attachOptions (params : List Byte) : Option HostOptions :=
  if params.isEmpty then some {} else HostOptions.parse params

/-- Entry `i` of a Submit Job frame; the threshold of a CONVERT entry is not checked and not kept
(R9, R13, R179). -/
def parseEntry (params : List Byte) (kind : JobKind) (i : Nat) : Option Entry := do
  let channel ← below 16 (field params (11 + 3 * i) 1)
  match kind with
  | .convert => some ⟨channel, 0⟩
  | .compare => (codeField (field params (12 + 3 * i) 2)).map (Entry.mk channel)

/-- The fields of a Submit Job frame, checked as R13 checks them, as the job record at admission
(section 1.2, R16, R179). -/
def parseJob (owner : HostId) (params : List Byte) : Option Job := do
  let tag ← tagField (field params 0 1)
  let kind ← JobKind.ofCode (field params 1 1)
  let cls ← JobClass.ofCode (field params 2 1)
  let dest ← Destination.ofCode (field params 3 1)
  let source ← Source.ofBytes (field params 4 1) (field params 5 1)
  let policy ← RetriggerPolicy.ofCode (field params 6 1)
  let notifyPass ← boolOfCode (field params 9 1)
  let count ← countField 16 (field params 10 1)
  let entries ← (List.range count).mapM (parseEntry params kind)
  if kind = .convert ∨ dest = .queue then
    some { id := ⟨owner, tag⟩, kind, cls, dest, source, policy, passLimit := field params 7 2,
           notifyPass, entries, state := if source = .now then .ready else .armed }
  else none

/-- The one parameter of a command that carries a tag (R178). -/
def tagParam (params : List Byte) : Option Byte := tagField (field params 0 1)

/-- The one parameter of a command that carries a channel (R178). -/
def channelParam (params : List Byte) : Option ChannelId := below 16 (field params 0 1)

/-- The one parameter of a command that carries a generator number (R178). -/
def generatorParam (params : List Byte) : Option GeneratorId := below 4 (field params 0 1)

/-- The one parameter of a command that carries a watch number (R178). -/
def watchParam (params : List Byte) : Option WatchId := below 8 (field params 0 1)

/-- The parameters of Configure Channel (R64). -/
def configureParams (params : List Byte) : Option (ChannelId × BitVec 2 × Rate) := do
  let channel ← channelParam params
  let setting ← below 4 (field params 1 1)
  let rate ← Rate.ofCode (field params 2 1)
  some (channel, BitVec.ofNat 2 setting.val, rate)

/-- The start setting of Program Trigger: pin and edge are checked for EXTERNAL only, and EITHER is no
start edge (R96). -/
def parseStart (params : List Byte) : Option TriggerStart :=
  match field params 10 1 with
  | 0 => some .command
  | 1 => do
    let pin ← below 2 (field params 11 1)
    let rising ←
      match field params 12 1 with
      | 0 => some true
      | 1 => some false
      | _ => none
    some (.external pin rising)
  | _ => none

/-- The six fields of Program Trigger. -/
structure TriggerProgram where
  mode : TriggerMode
  delay : BitVec 24
  period : BitVec 24
  fraction : Byte
  burst : Byte
  start : TriggerStart
deriving DecidableEq, Repr

/-- The checks of period and burst count that a mode asks for (R96). -/
def TriggerProgram.fits (p : TriggerProgram) : Bool :=
  match p.mode with
  | .once => true
  | .periodic => decide (p.period ≠ 0 ∧ p.fraction.toNat ≤ 15)
  | .burst => decide (p.period ≠ 0 ∧ p.fraction.toNat ≤ 15 ∧ p.burst ≠ 0)

/-- The parameters of Program Trigger (R96, section 10.3). -/
def programParams (params : List Byte) : Option (GeneratorId × TriggerProgram) := do
  let generator ← generatorParam params
  let mode ← TriggerMode.ofCode (field params 1 1)
  let start ← parseStart params
  let program : TriggerProgram :=
    { mode, delay := BitVec.ofNat 24 (field params 2 3), period := BitVec.ofNat 24 (field params 5 3),
      fraction := byteOf (field params 8 1), burst := byteOf (field params 9 1), start }
  if program.fits then some (generator, program) else none

/-- The parameters of Set Watch: the watch, and its record as the sender will own it (R113, R114). -/
def watchParams (owner : HostId) (params : List Byte) : Option (WatchId × Watch) := do
  let number ← watchParam params
  let channel ← below 16 (field params 1 1)
  let low ← codeField (field params 2 2)
  let high ← codeField (field params 4 2)
  let zone ← Zone.ofCode (field params 6 1)
  let clearNotices ← boolOfCode (field params 8 1)
  if low ≤ high then
    some (number, { owner := some owner, channel, low, high, zone,
                    hysteresis := byteOf (field params 7 1), clearNotices, state := .unknown })
  else none

/-- The band of the 4096 that an input lies in (R53); free where the reference is 0 V (log entry 14). -/
def inputLevel (a : AnalogInput) : Code :=
  if a.refin = 0 then Config.codeWithoutReference a.vin
  else BitVec.ofNat 12 (min 4095 (a.vin * 4096 / a.refin).toNat)

end Sys2Proof.Machine
end

