-- ==== Sys2Proof/Machine/Scheduler.lean ====
section
/-! DEFINITION. The scheduler and the converter: eligibility, selection, grant, resumption, preemption,
start and abort of a conversion (chapters 2 and 3). -/

namespace Sys2Proof.Machine

/-- The classes, highest first (R37). -/
def allClasses : List JobClass := [.urgent, .normal, .background]

/-- A READY job that may be granted a pass (R32). -/
def State.eligible (s : State) (j : Job) : Bool :=
  j.state == .ready &&
    (j.dest == .table || (s.session j.id.owner).options.fullPolicy == .discard
      || decide (j.entries.length ≤ (s.resultQueue j.id.owner).freePlaces))

/-- The eligible READY jobs of a class, oldest first (R28, R34). -/
def State.eligibleJobs (s : State) (c : JobClass) : List Job :=
  ((s.ready.get c).filterMap s.findJob).filter s.eligible

/-- A class that the first step of a selection may choose. With the converter idle a set marker names
a SUSPENDED job or the job whose entry has just completed (R37, R41). -/
def State.qualifies (s : State) (c : JobClass) : Bool :=
  (s.marker.get c).isSome || !(s.eligibleJobs c).isEmpty

/-- The first step: the highest class that qualifies (R37). -/
def State.chosenClass (s : State) : Option JobClass := allClasses.find? s.qualifies

/-- The hosts in the order of a rotation pointer: p + 1, p + 2, p (R31). -/
def rotationOrder (p : HostId) : List HostId := [p + 1, p + 2, p]

/-- The third step: the oldest eligible job of the first host in rotation that has one (R39). -/
def State.chosenJob (s : State) (c : JobClass) : Option Job :=
  (rotationOrder (s.rotation.get c)).findSome? fun h =>
    (s.eligibleJobs c).find? fun j => j.id.owner == h

/-- The start of a conversion for the entry at the job's cursor, with the channel's settings as they
stand (R55). -/
def State.startConversion (s : State) (id : JobId) : State :=
  match s.findJob id with
  | none => s
  | some j =>
    match j.entries[j.cursor]? with
    | none => s
    | some e =>
      let ch := s.channel e.channel
      s.setConverter (some
        { job := id, index := j.cursor, channel := e.channel, kind := j.kind,
          threshold := if j.kind = .compare then some e.threshold else none, setting := ch.setting,
          rate := if j.kind = .convert then some ch.rate else none, phase := .sampling })

/-- The second step: the job that the class's marker names runs on at its cursor (R38, R41). -/
def State.resume (s : State) (id : JobId) : State :=
  (s.updateJob id fun j => { j with state := .running }).startConversion id

/-- The reservation of a grant: only for destination QUEUE under WAIT (R74). -/
def State.reserve (s : State) (j : Job) : State :=
  if j.dest = .queue ∧ (s.session j.id.owner).options.fullPolicy = .wait then
    s.setAccount j.id.owner j.cls (some j.entries.length)
  else s

/-- The job's record at the grant of a pass (R18). -/
def Job.granted (j : Job) : Job :=
  { j with state := .running, cursor := 0, redo := false, restarted := false, produced := 0,
           discarded := 0 }

/-- The grant of a pass, in the order of R40. -/
def State.grant (s : State) (j : Job) : State :=
  let s := s.setReady j.cls ((s.ready.get j.cls).erase j.id)
  let s := s.setMarker j.cls (some j.id)
  let s := s.setRotation j.cls j.id.owner
  let s := s.reserve j
  let s := s.updateJob j.id Job.granted
  s.startConversion j.id

/-- A job left RUNNING in another class at a completion boundary becomes SUSPENDED (R20, R41). -/
def Job.yieldTo (c : JobClass) (j : Job) : Job :=
  if j.state = .running ∧ j.cls ≠ c then { j with state := .suspended } else j

/-- The service of a chosen class: its pass in progress, or a grant by rotation (R38, R39). -/
def State.serve (s : State) (c : JobClass) : State :=
  let s := s.setJobs (s.jobs.map (Job.yieldTo c))
  match s.marker.get c with
  | some id => s.resume id
  | none =>
    match s.chosenJob c with
    | some j => s.grant j
    | none => s

/-- A completion has been reported and the Job Table's share of it is still to come: the selection waits
for that share (R35, R57). -/
def State.selectionWaits (s : State) : Bool :=
  match s.completion with
  | some c => c.left.contains .job
  | none => false

/-- A selection: made only with the converter idle, outside the span between a report and the Job
Table's share, and when some class qualifies (R35, R37, R57). -/
def State.select (s : State) : State :=
  if s.selectionWaits then s
  else
    match s.converter, s.chosenClass with
    | none, some c => s.serve c
    | _, _ => s

/-- The abort of the conversion in flight: the context empties (R58). -/
def State.abort (s : State) : State := s.setConverter none

/-- The URGENT preemption condition (R44). -/
def State.urgentWaits (s : State) : Bool :=
  match s.converter with
  | none => false
  | some ctx =>
    match s.findJob ctx.job with
    | none => false
    | some j => j.cls != .urgent && !(s.eligibleJobs .urgent).isEmpty

/-- The suspension of a RUNNING job by URGENT preemption: REDO is set, the cursor kept (R20). -/
def Job.preempted (j : Job) : Job := { j with state := .suspended, redo := true }

/-- URGENT preemption up to the selection: the conversion in flight is aborted and its job SUSPENDED
(R44). -/
def State.preempt (s : State) : State :=
  match s.converter with
  | none => s
  | some ctx => (s.updateJob ctx.job Job.preempted).abort

/-- A scheduling occasion at the end of an event: the preemption condition is tested and a selection
is made if the converter is idle (R35, R44). DEDUCED (log entry 8): once for the whole event. -/
def State.schedule (s : State) : State :=
  (if s.urgentWaits then s.preempt else s).select

/-- Whether a job's pass is in progress: RUNNING or SUSPENDED (section 1.4). -/
def Job.inPass (j : Job) : Bool := j.state == .running || j.state == .suspended

/-- A job is removed, as its owner's withdrawal removes it (R24, R50, R79): it leaves its Ready List,
its conversion is aborted, its class's marker cleared and its account closed. -/
def State.removeJob (s : State) (j : Job) : State :=
  let s := s.setReady j.cls ((s.ready.get j.cls).erase j.id)
  let s := if s.executes j.id then s.abort else s
  let s :=
    if j.inPass then (s.setMarker j.cls none).setAccount j.id.owner j.cls none else s
  s.setJobs (s.jobs.filter fun k => k.id != j.id)

end Sys2Proof.Machine
end

