-- ==== Sys2Proof/Machine/Queues.lean ====
section
/-! DEFINITION. The result queue's operations: placing or dropping a record, a record leaving, a
notice leaving, the stale mark and the discarded-records count (chapter 4, R134). -/

namespace Sys2Proof.Machine

/-- The stale mark recomputed from the head of the queue (R83). -/
def State.testStale (s : State) (h : HostId) : State :=
  let q := s.resultQueue h
  s.setResultQueue h { q with staleMark := s.headReached h q.records }

/-- A record joins the tail; one that becomes the head is tested at once (R71, R83). -/
def State.appendRecord (s : State) (h : HostId) (r : ResultRecord) : State :=
  let q := s.resultQueue h
  let s' := s.setResultQueue h { q with records := q.records ++ [r] }
  if q.records.isEmpty then s'.testStale h else s'

/-- How a queue takes an offered record of a class: from the pass's reservation, from the free places,
or not at all. -/
inductive Placement where
  | reserved (left : Nat)
  | free
  | dropped
deriving DecidableEq, Repr

/-- Where an offered record goes (R75, R76). An account that holds no place, which no pass in progress
has, is met by the free places (log entry 16). -/
def ResultQueue.placement (q : ResultQueue) (c : JobClass) : Placement :=
  match q.accounts.get c with
  | some (left + 1) => .reserved left
  | _ => if 0 < q.freePlaces then .free else .dropped

/-- A job whose record was placed (R11). -/
def Job.countPlaced (j : Job) : Job := { j with produced := j.produced + 1 }

/-- A job whose record was dropped (R11, R77). -/
def Job.countDropped (j : Job) : Job := { j with discarded := min 16 (j.discarded + 1) }

/-- The offer of a record of a job to its owner's queue (R70, R75, R76, R77). -/
def State.offer (s : State) (id : JobId) (c : JobClass) (r : ResultRecord) : State :=
  let q := s.resultQueue id.owner
  match q.placement c with
  | .reserved left =>
    ((s.setAccount id.owner c (some left)).appendRecord id.owner r.sealed).updateJob id Job.countPlaced
  | .free => (s.appendRecord id.owner r.sealed).updateJob id Job.countPlaced
  | .dropped =>
    (s.setResultQueue id.owner { q with discarded := min 65535 (q.discarded + 1) }).updateJob id
      Job.countDropped

/-- The head record leaves when its last byte has been transferred; the new head is tested and the
rise in free places is a scheduling occasion (R83, R86). After a teardown there is none (R88). -/
def State.recordLeaves (s : State) (h : HostId) : State :=
  match (s.resultQueue h).records with
  | [] => s
  | _ :: rest =>
    ((s.setResultQueue h { s.resultQueue h with records := rest }).testStale h).schedule

/-- The head notice leaves when its last byte has been transferred (R134). -/
def State.noticeLeaves (s : State) (h : HostId) : State :=
  s.setNoticeQueue h { s.noticeQueue h with notices := (s.noticeQueue h).notices.tail }

/-- The discarded-records count is lowered by the value reported (R77). -/
def State.lowerDiscarded (s : State) (h : HostId) (reported : Nat) : State :=
  let q := s.resultQueue h
  s.setResultQueue h { q with discarded := q.discarded - reported }

end Sys2Proof.Machine
end

