-- ==== Sys2Proof/Machine/Arrivals.lean ====
section
/-! DEFINITION. Firings and arrivals (R105 to R110), and the firing of a trigger generator (R99 to
R101). -/

namespace Sys2Proof.Machine

/-- An overrun: counted, and reported once between pass ends (R108). -/
def State.overrun (s : State) (j : Job) : State :=
  let count := min 65535 (j.overruns + 1)
  let s := if j.overrunReported then s else s.post j.id.owner .overrun j.id.tag count
  s.updateJob j.id fun k => { k with overruns := count, overrunReported := true }

/-- The job's record after an accepted restart (R109). -/
def Job.restart (j : Job) : Job :=
  { j with state := .suspended, cursor := 0, redo := false, restarted := true, produced := 0 }

/-- The accepted restart: the job's conversion in flight, if any, is aborted (R109). -/
def State.acceptRestart (s : State) (j : Job) : State :=
  let s := if s.executes j.id then s.abort else s
  s.updateJob j.id Job.restart

/-- A RESTART arrival at a job in a pass (R80, R109). A job is RUNNING with no conversion of its own in
flight only between a report and the Job Table's share of it (R36), and there it takes the arrival as an
overrun (R110). -/
def State.restartPass (s : State) (j : Job) : State :=
  if j.state = .running ∧ ¬ s.executes j.id then s.overrun j
  else
    match s.account j.id.owner j.cls with
    | none => s.acceptRestart j
    | some held =>
      if j.produced ≤ (s.resultQueue j.id.owner).freePlaces then
        (s.setAccount j.id.owner j.cls (some (held + j.produced))).acceptRestart j
      else s.overrun j

/-- An arrival under HOLD at a job READY or in a pass (R107). -/
def State.holdArrival (s : State) (j : Job) : State :=
  if j.pendingTrigger then s.overrun j
  else s.updateJob j.id fun k => { k with pendingTrigger := true }

/-- An arrival at a job, by its state and policy (the table of R106). -/
def State.arrival (s : State) (id : JobId) : State :=
  match s.findJob id with
  | none => s
  | some j =>
    match j.state, j.policy with
    | .armed, _ => s.makeReady id j.cls
    | _, .ignore => s.overrun j
    | _, .hold => s.holdArrival j
    | .ready, .restart => s.overrun j
    | _, .restart => s.restartPass j

/-- A firing is delivered to every job whose source matches it, in the order of admission (R105). -/
def State.deliver (s : State) (hits : Source → Bool) : State :=
  ((s.jobs.filter fun j => hits j.source).map Job.id).foldl State.arrival s

/-- The source that a generator's firing matches (R105). -/
def generatorHits (g : GeneratorId) (src : Source) : Bool := src == .generator g

/-- The source that a watch's firing matches (R105). -/
def watchHits (w : WatchId) (src : Source) : Bool := src == .watch w

/-- The sources that an edge of a pin matches (R105). -/
def edgeHits (p : PinId) (rising : Bool) (src : Source) : Bool :=
  match src with
  | .pin q .either => q == p
  | .pin q .rise => q == p && rising
  | .pin q .fall => q == p && !rising
  | _ => false

/-- The generator ends at a firing that brings its count to `count` (R101). -/
def Generator.endsAt (g : Generator) (count : BitVec 16) : Bool :=
  match g.mode with
  | .once => true
  | .periodic => false
  | .burst => count.toNat == g.burst.toNat

/-- The generator with the interval to its next firing and the accumulator carried (R100). -/
def Generator.nextInterval (g : Generator) : Generator :=
  let sum := g.accumulator + g.fraction.toNat
  if 16 ≤ sum then
    { g with state := .running, accumulator := sum - 16, remaining := some (g.period.toNat + 1) }
  else { g with state := .running, accumulator := sum, remaining := some g.period.toNat }

/-- The generator at rest (R95, R101, R102). -/
def Generator.stopped (g : Generator) : Generator := { g with state := .stopped, remaining := none }

/-- A firing of a generator: it is counted and delivered, and then the run ends with TRIGGER_ENDED or
goes on (R100, R101). -/
def State.fireGenerator (s : State) (g : GeneratorId) : State :=
  let count := (s.generator g).firings + 1
  let s := s.setGenerator g { s.generator g with firings := count }
  let s := s.deliver (generatorHits g)
  let x := s.generator g
  if x.endsAt count then
    let s := s.setGenerator g x.stopped
    match x.owner with
    | some h => s.post h .triggerEnded (byteOf g.val) count.toNat
    | none => s
  else s.setGenerator g x.nextInterval

/-- A generator enters DELAYING; with delay 0 it fires in the same event (R99). -/
def State.enterDelaying (s : State) (g : GeneratorId) : State :=
  let x := s.generator g
  if x.delay = 0 then
    (s.setGenerator g { x with state := .delaying, remaining := none }).fireGenerator g
  else s.setGenerator g { x with state := .delaying, remaining := some x.delay.toNat }

/-- A generator that waits for this edge of this pin takes it (R98). -/
def State.generatorEdge (s : State) (p : PinId) (rising : Bool) (g : GeneratorId) : State :=
  let x := s.generator g
  if x.state = .waitingEdge ∧ x.start = .external p rising then s.enterDelaying g else s

end Sys2Proof.Machine
end

