-- ==== Sys2Proof/Machine/Completion.lean ====
section
/-! DEFINITION. What follows the report of a completion: the watch unit's share, the Job Table's share
with the pass end, and the selection (R19, R22, R23, R36, R57, R117 to R123). -/

namespace Sys2Proof.Machine

/-- What follows a report, in the order in which it is taken when nothing says otherwise (R57). -/
def allShares : List CompletionShare := [.watch, .job, .select]

/-! ### The watch unit's share (R117 to R123) -/

/-- A code lies in the alert zone (R118). -/
def Watch.inZone (w : Watch) (v : Code) : Bool :=
  match w.zone with
  | .inside => decide (w.low ≤ v ∧ v ≤ w.high)
  | .outside => decide (v < w.low ∨ w.high < v)

/-- The lower bound L of a watch in ALERT, clamped into 0 to 4095 (R119, R120). -/
def Watch.lowBound (w : Watch) : Nat :=
  match w.zone with
  | .inside => w.low.toNat - w.hysteresis.toNat
  | .outside => min 4095 (w.low.toNat + w.hysteresis.toNat)

/-- The upper bound H of a watch in ALERT, clamped into 0 to 4095 (R119, R120). -/
def Watch.highBound (w : Watch) : Nat :=
  match w.zone with
  | .inside => min 4095 (w.high.toNat + w.hysteresis.toNat)
  | .outside => w.high.toNat - w.hysteresis.toNat

/-- A code keeps a watch in ALERT (R119). -/
def Watch.staysAlert (w : Watch) (v : Code) : Bool :=
  match w.zone with
  | .inside => decide (w.lowBound ≤ v.toNat ∧ v.toNat ≤ w.highBound)
  | .outside => decide (v.toNat < w.lowBound ∨ w.highBound < v.toNat)

/-- The state of a watch after it has evaluated a code (R118, R119). -/
def Watch.next (w : Watch) (v : Code) : WatchState :=
  match w.state with
  | .alert => if w.staysAlert v then .alert else .clear
  | _ => if w.inZone v then .alert else .clear

/-- A watch evaluates a code: it posts and fires on entering ALERT, and posts on its return to CLEAR
when clear notices are on (R118, R119, R122, R123). -/
def State.evaluate (s : State) (w : WatchId) (owner : HostId) (v : Code) : State :=
  let x := s.watch w
  let entered := x.state != .alert && x.next v == .alert
  let left := x.state == .alert && x.next v == .clear
  let s := s.setWatch w { x with state := x.next v }
  if entered then (s.post owner .watchAlert (byteOf w.val) v.toNat).deliver (watchHits w)
  else if left && x.clearNotices then s.post owner .watchClear (byteOf w.val) v.toNat
  else s

/-- A set watch on the report's channel evaluates its code; any other takes no part (R117). -/
def State.offerWatch (r : Report) (s : State) (w : WatchId) : State :=
  match (s.watch w).owner with
  | some owner => if (s.watch w).channel = r.channel then s.evaluate w owner r.value else s
  | none => s

/-- Every watch in ascending number, each whole before the next (R121); a COMPARE is not handed to
the watch unit (R117). -/
def State.watchShare (s : State) (r : Report) : State :=
  match r.kind with
  | .convert => allWatches.foldl (State.offerWatch r) s
  | .compare => s

/-! ### The Job Table's share (R19, R22, R23) -/

/-- The result record of a completion, before its check byte (R19, R22, R57, section 4.1). -/
def Job.record (j : Job) (r : Report) (last : Bool) : ResultRecord :=
  { tag := j.id.tag, index := BitVec.ofNat 4 j.cursor, channel := r.channel, kind := r.kind,
    redone := j.redo, last, fast := r.fast, restarted := j.restarted, value := r.value,
    pass := BitVec.ofNat 16 j.passesDone, timestamp := r.timestamp, check := 0 }

/-- The job's record when an entry that is not the last has completed (R19). -/
def Job.advance (j : Job) : Job := { j with redo := false, cursor := j.cursor + 1 }

/-- The job's record at pass end, before its disposal (R22). -/
def Job.endPass (j : Job) : Job :=
  { j with passesDone := min 65535 (j.passesDone + 1), cursor := 0, redo := false, restarted := false,
           overrunReported := false, produced := 0, discarded := 0 }

/-- The disposal of a job whose pass has ended; `j` is its record then (R23). -/
def State.dispose (s : State) (j : Job) : State :=
  if j.passLimit ≠ 0 ∧ j.passesDone = j.passLimit then
    let s := s.post j.id.owner .jobDone j.id.tag j.passesDone
    s.setJobs (s.jobs.filter fun k => k.id != j.id)
  else if j.pendingTrigger then
    (s.updateJob j.id fun k => { k with pendingTrigger := false }).makeReady j.id j.cls
  else if j.source = .now then s.makeReady j.id j.cls
  else s.updateJob j.id fun k => { k with state := .armed }

/-- The end of a pass, in the order of R22; `j` is the record the last completion left. The account of
the class is closed before the disposal (R78). -/
def State.endPass (s : State) (j : Job) : State :=
  let s := s.updateJob j.id Job.endPass
  let s := if j.notifyPass then s.post j.id.owner .passDone j.id.tag j.passesDone else s
  let s :=
    if 0 < j.discarded then s.post j.id.owner .resultsDiscarded j.id.tag j.discarded else s
  let s := (s.setMarker j.cls none).setAccount j.id.owner j.cls none
  s.dispose j.endPass

/-- The Job Table's share of a completion: the record is offered, and then the cursor advances or the
pass ends (R19, R22). -/
def State.jobShare (s : State) (r : Report) : State :=
  match s.findJob r.job with
  | none => s
  | some j =>
    let last := decide (j.entries.length ≤ j.cursor + 1)
    let s := if j.dest = .queue then s.offer j.id j.cls (j.record r last) else s
    match s.findJob r.job with
    | none => s
    | some k => if last then s.endPass k else s.updateJob k.id Job.advance

/-! ### The open completion (R57) -/

/-- A RUNNING job as it stands once the Job Table's share of its completion is behind it and no
selection has been made yet: SUSPENDED (R36). -/
def Job.awaitSelection (j : Job) : Job := if j.state = .running then { j with state := .suspended } else j

/-- A completion without one of the things that follow its report; none once nothing is left. -/
def Completion.without (c : Completion) (x : CompletionShare) : Option Completion :=
  if c.left.erase x = [] then none else some { c with left := c.left.erase x }

/-- One of the things that follow a report is behind it. -/
def State.leave (s : State) (x : CompletionShare) : State :=
  s.setCompletion (s.completion.bind fun c => c.without x)

/-- The Job Table takes its share of the open completion, once (R19, R22). An arrival taken before it
finds the job RUNNING with no conversion of its own in flight; an arrival of the watch share that comes
after it, and before the selection, finds the job SUSPENDED, READY, ARMED or gone (R36, R110). -/
def State.takeJobShare (s : State) : State :=
  match s.completion with
  | some c =>
    if c.left.contains .job then
      ((s.jobShare c.report).updateJob c.report.job Job.awaitSelection).leave .job
    else s
  | none => s

/-- One thing that follows a report, taken once: a share, or the selection once the Job Table has taken
its share (R57). A watch's firing is a scheduling occasion, which waits like any other for the Job
Table's share (R35). -/
def State.takeShare (s : State) (x : CompletionShare) : State :=
  match s.completion with
  | none => s
  | some c =>
    if c.left.contains x then
      match x with
      | .watch => ((s.leave .watch).watchShare c.report).schedule
      | .job => s.takeJobShare
      | .select => if c.left.contains .job then s else (s.leave .select).schedule
    else s

/-- Several things that follow a report, in this order. Where the Job Table's share is among them the
selection closes the event, if it has not been made before: only that share keeps it waiting (R35,
R57). -/
def State.takeShares (s : State) (shares : List CompletionShare) : State :=
  (shares ++ [CompletionShare.select]).foldl State.takeShare s

/-- What an open completion still leaves is taken before time goes on (log entry 6). -/
def State.finishCompletion (s : State) : State :=
  if s.completion.isSome then s.takeShares allShares else s

/-- Before a job is removed, these shares of that job's completion are taken if the report has been handed
on: the completion has then been taken first and runs in full, its selection included (R25, R50, R59,
R125, R154). -/
def State.settle (s : State) (shares : List CompletionShare) (removed : JobId → Bool) : State :=
  match s.completion with
  | some c => if removed c.report.job then s.takeShares shares else s
  | none => s

end Sys2Proof.Machine
end

