-- ==== Sys2Proof/Machine/Teardown.lean ====
section
/-! DEFINITION. Teardown, one event with the shares and order of R151. -/

namespace Sys2Proof.Machine

/-- Share 1: the session ends in the state its cause gives, and the lease timer becomes absent. The
interrupt line follows, since it is derived (R135). -/
def State.endSession (s : State) (h : HostId) (ended : SessionState) : State :=
  s.setSession h { s.session h with state := ended, lease := none }

/-- Share 2: the host's jobs leave the table and the Ready Lists, the markers that name them are
cleared, and a conversion for one of them is aborted (R27, R51, R58). -/
def State.dropJobs (s : State) (h : HostId) : State :=
  let s := s.setJobs (s.jobs.filter fun j => j.id.owner != h)
  let s := { s with
    ready := s.ready.map (List.filter fun id => id.owner != h)
    marker := s.marker.map (Option.filter fun id => id.owner != h) }
  s.setConverter (s.converter.filter fun ctx => ctx.job.owner != h)

/-- Share 3: the host's channels become unowned (R69). -/
def State.dropChannels (s : State) (h : HostId) : State :=
  { s with channels := s.channels.map fun c => if c.owner = some h then { c with owner := none } else c }

/-- A generator as Release Trigger leaves it (R95). -/
def Generator.released (g : Generator) : Generator := { g.stopped with owner := none }

/-- Share 4: the host's generators become unowned and STOPPED (R111). -/
def State.dropGenerators (s : State) (h : HostId) : State :=
  { s with generators := s.generators.map fun g => if g.owner = some h then g.released else g }

/-- A watch as Clear Watch leaves it (R115). -/
def Watch.freed (w : Watch) : Watch := { w with owner := none, state := .unknown }

/-- Share 5: the host's watches are freed (R125). -/
def State.dropWatches (s : State) (h : HostId) : State :=
  { s with watches := s.watches.map fun w => if w.owner = some h then w.freed else w }

/-- Share 6: the host's result queue is emptied; its discarded-records count is kept (R89). -/
def State.emptyResults (s : State) (h : HostId) : State :=
  s.setResultQueue h { discarded := (s.resultQueue h).discarded }

/-- Share 7: the host's notice queue is emptied (R138). -/
def State.emptyNotices (s : State) (h : HostId) : State := s.setNoticeQueue h {}

/-- Share 8: HOST_LEFT to each other host, the lower-numbered first; the post itself is taken only by
an ATTACHED host (R129, R153). -/
def State.announceLeft (s : State) (h : HostId) (detail : Nat) : State :=
  (allHosts.filter (· != h)).foldl (fun s g => s.post g .hostLeft (byteOf h.val) detail) s

/-- The detail of HOST_LEFT: 1 for Detach, 2 for lapse (R153). -/
def leftDetail : SessionState → Nat
  | .lapsed => 2
  | _ => 1

/-- The teardown of a host whose session ends in `ended` (R151). A completion of one of its jobs that has
been reported before it is evaluated, placed and recorded in full, and the teardown then aborts whatever
conversion executes for the host (R59, R125, R154). -/
def State.teardown (s : State) (h : HostId) (ended : SessionState) : State :=
  let s := s.settle [.watch, .job] fun id => id.owner == h
  let s := s.endSession h ended
  let s := s.dropJobs h
  let s := s.dropChannels h
  let s := s.dropGenerators h
  let s := s.dropWatches h
  let s := s.emptyResults h
  let s := s.emptyNotices h
  let s := s.announceLeft h (leftDetail ended)
  s.select

end Sys2Proof.Machine
end

