-- ==== Sys2Proof/Machine/Converter.lean ====
section
/-! DEFINITION. The converter's events: the end of a sampling phase and the completion of a
conversion, with the value converted and the Channel Table's share (R53, R54, R56, R57, R66, R67). -/

namespace Sys2Proof.Machine

/-- The code of a CONVERT: at rate FAST its two least significant bits are 0 (R53, R54). -/
def convertCode (rate : Rate) (level : Code) : Code :=
  match rate with
  | .normal => level
  | .fast => level &&& 0xFFC

/-- The outcome of a COMPARE: 1 for AT_OR_ABOVE, 0 for BELOW (R53). -/
def compareCode (threshold level : Code) : Code := if threshold ≤ level then 1 else 0

/-- The value a conversion yields from the sample it holds (R53, R54). -/
def Context.value (c : Context) (held : AnalogInput) : Code :=
  match c.kind with
  | .convert => convertCode (c.rate.getD .normal) (inputLevel held)
  | .compare => compareCode (c.threshold.getD 0) (inputLevel held)

/-- The report of a completed conversion (R57). -/
def Context.report (c : Context) (timestamp : Timestamp) (held : AnalogInput) : Report :=
  { job := c.job, index := c.index, channel := c.channel, kind := c.kind, value := c.value held, timestamp,
    fast := c.kind == .convert && c.rate == some .fast }

/-! ### The Channel Table's share (R66, R67) -/

/-- The latest value replaced whole and the sequence number raised by one (R66, R67). -/
def Channel.update (c : Channel) (r : Report) : Channel :=
  { c with valid := true, code := r.value, timestamp := r.timestamp, producer := r.job.owner,
           tag := r.job.tag, sequence := c.sequence + 1 }

def State.channelShare (s : State) (r : Report) : State :=
  match r.kind with
  | .convert => s.setChannel r.channel ((s.channel r.channel).update r)
  | .compare => s

/-! ### The two events -/

/-- The converter hands on the report of a conversion that has reached its end: the context empties, the
Channel Table takes its share, and the rest is left to follow (R57). In IDLE or SAMPLING, and while an
earlier completion is still to be taken whole, no conversion phase can end (log entry 3). -/
def State.handOn (s : State) : State :=
  match s.completion, s.converter with
  | none, some ctx =>
    match ctx.phase with
    | .converting timestamp held =>
      let r := ctx.report timestamp held
      ((s.setConverter none).channelShare r).setCompletion (some ⟨r, allShares⟩)
    | .sampling => s
  | _, _ => s

/-- SAMPLING_PHASE_END (R56): the timebase is stored as the sample timestamp, the input is held, and
the converter enters CONVERTING. In IDLE or CONVERTING, and in the moment of a completion, no sampling
phase can end (log entry 3). -/
def execSamplingPhaseEnd (input : AnalogInput) (s : State) : Host.Outcome State Fault Refusal :=
  match s.completion, s.converter with
  | none, some ctx =>
    match ctx.phase with
    | .sampling => .next (s.setConverter (some { ctx with phase := .converting s.timebase input }))
    | .converting _ _ => .next s
  | _, _ => .next s

/-- CONVERSION_COMPLETE (R57): the report is handed on, and what the row names follows in that order,
the selection closing a row that has taken the Job Table's share (R35). A row that names both shares is a
whole completion; what a row leaves out stays to be taken by a later one, and the rows in between are the
events that come together with the completion (R45, R57; log entry 6). -/
def execConversionComplete (shares : List CompletionShare) (s : State) :
    Host.Outcome State Fault Refusal :=
  .next (s.handOn.takeShares shares)

end Sys2Proof.Machine
end

