-- ==== Sys2Proof/Machine/Board.lean ====
section
/-! DEFINITION. The events of the TRIG pins and of RESET: TRIG_EDGE and DEVICE_RESET (R98, R104, R105,
R175). -/

namespace Sys2Proof.Machine

/-- An edge taken at a pin reaches the waiting generators and the jobs bound to the pin, in an order
that the spec leaves open (R98, R105; log entry 7); then one scheduling occasion. -/
def State.takeEdge (s : State) (p : PinId) (rising : Bool) (order : EdgeOrder) : State :=
  let take := fun (s : State) (g : GeneratorId) => s.generatorEdge p rising g
  let s := order.before.foldl take s
  let s := s.deliver (edgeHits p rising)
  let s := (order.after ++ allGenerators).foldl take s
  s.schedule

/-- TRIG_EDGE (R104): the detector samples its pin; a sample that differs from the previous one is an
edge, rising when the new sample is high. -/
def execTrigEdge (p : PinId) (level : Bool) (order : EdgeOrder) (s : State) :
    Host.Outcome State Fault Refusal :=
  if s.trigSample.get p = level then .next s
  else .next ({ s with trigSample := s.trigSample.put p level }.takeEdge p level order)

/-- DEVICE_RESET (R175): every block returns to its reset values. What waits outside the part stays
queued (log entry 27). -/
def execDeviceReset (straps : Straps) (s : State) : Host.Outcome State Fault Refusal :=
  .next { State.afterReset straps with pending := s.pending }

end Sys2Proof.Machine
end

