-- ==== Sys2Proof/Machine/Replies.lean ====
section
/-! DEFINITION. The replies of the read-type commands (section 10.5), their judgement (R164, R165), and
the transfer of their bytes (R166, R172). -/

namespace Sys2Proof.Machine

/-- A number that may be absent, reported as 0 (R181). -/
def absentAsZero (n : Option Nat) : Nat := n.getD 0

/-- The Read Status reply (R155, R181). -/
def State.statusReply (s : State) (h : HostId) : List Byte :=
  let q := s.resultQueue h
  let x := s.session h
  [CmdOutcome.ok.code, x.state.code, (s.port h).lastOutcome.code] ++ beBytes 4 s.timebase.toNat
    ++ [byteOf q.records.length, byteOf q.reserved, byteOf (s.noticeQueue h).notices.length,
        byteOf (s.noticeQueue h).lost] ++ beBytes 2 q.discarded
    ++ [byteOf (s.slotsHeld h), byteOf s.freeSlots] ++ x.options.bytes ++ beBytes 4 (absentAsZero x.lease)
    ++ [Config.partIdentity, Config.revision]

/-- The pass marks of Read Job as one byte (R181). -/
def Job.marksByte (j : Job) : Byte :=
  byteOf ((if j.redo then 1 else 0) + (if j.restarted then 2 else 0) + (if j.overrunReported then 4 else 0))

/-- An entry place of Read Job (R181). -/
def Entry.bytes (e : Entry) : List Byte := byteOf e.channel.val :: beBytes 2 e.threshold.toNat

/-- The sixteen entry places of Read Job: the entries, then places of zeros (R181). -/
def Job.entryPlaces (j : Job) : List Byte :=
  ((j.entries.map Entry.bytes).flatten ++ List.replicate 48 0).take 48

/-- The Read Job reply (R26, R181). -/
def Job.reply (j : Job) : List Byte :=
  [CmdOutcome.ok.code, j.kind.code, j.cls.code, j.dest.code, j.source.byte, j.source.edgeByte,
   j.policy.code] ++ beBytes 2 j.passLimit
    ++ [boolByte j.notifyPass, j.state.code, byteOf j.cursor, j.marksByte] ++ beBytes 2 j.passesDone
    ++ [boolByte j.pendingTrigger] ++ beBytes 2 j.overruns
    ++ [byteOf j.produced, byteOf j.discarded, byteOf j.entries.length] ++ j.entryPlaces

/-- The Read Channel reply (R68, R181). -/
def Channel.reply (c : Channel) : List Byte :=
  [CmdOutcome.ok.code, ownerByte c.owner, byteOf c.setting.toNat, c.rate.code, boolByte c.valid]
    ++ beBytes 2 c.code.toNat ++ beBytes 4 c.timestamp.toNat ++ [byteOf c.producer.val, c.tag]
    ++ beBytes 2 c.sequence.toNat

/-- The Read Trigger reply (R103, R181). -/
def Generator.reply (g : Generator) : List Byte :=
  [CmdOutcome.ok.code, ownerByte g.owner, g.mode.code] ++ beBytes 3 g.delay.toNat
    ++ beBytes 3 g.period.toNat ++ [g.fraction, g.burst] ++ g.start.bytes ++ [g.state.code]
    ++ beBytes 2 g.firings.toNat ++ [byteOf g.accumulator]

/-- The Read Watch reply (R116, R181). -/
def Watch.reply (w : Watch) : List Byte :=
  [CmdOutcome.ok.code, ownerByte w.owner, byteOf w.channel.val] ++ beBytes 2 w.low.toNat
    ++ beBytes 2 w.high.toNat ++ [w.zone.code, w.hysteresis, boolByte w.clearNotices, w.state.code]

/-- A reply that is its outcome byte alone (R165). -/
def refusalReply (o : CmdOutcome) : CmdOutcome × ReplyBody := (o, .fixed [o.code])

/-- The checks that the read-type commands but Read Status share: session, then the parameter (R26, R68,
R85, R103, R116, R133); then the command's own answer. -/
def State.answer {α : Type} (s : State) (h : HostId) (param : Option α)
    (reply : α → CmdOutcome × ReplyBody) : CmdOutcome × ReplyBody :=
  match s.sessionRefusal h, param with
  | some o, _ => refusalReply o
  | none, none => refusalReply .badParam
  | none, some a => reply a

/-- The port is SPI port 0 or 1. -/
def isSpi (h : HostId) : Bool := h != 2

/-- Whether a command row can be judged on a port: no frame is in progress, or the frame in progress
still awaits this command's judgement (R157, R158; log entry 2). -/
def Port.awaits (p : Port) (c : Command) : Bool :=
  match p.phase with
  | .idle => true
  | .command => p.readPhase == .notBegun
  | .parameters => p.command == some c.code && (!c.isRead || p.readPhase == .notBegun)
  | _ => false

/-- The judgement of a read-type command in the event of its last parameter byte: the outcome is
recorded, the reply fixed and the port in REPLY (R164, R169). On an SPI port the byte's own clocks have
carried a MISO byte, the status byte or 0x00 (R162; log entry 12). -/
def State.fixReply (s : State) (h : HostId) (c : Command) (params : List Byte)
    (r : CmdOutcome × ReplyBody) : State :=
  let p := s.port h
  let capture := p.statusCapture.getD (s.statusByte h)
  s.setPort h
    { p with
      phase := .reply
      statusCapture := some capture
      command := some c.code
      params := params
      required := some params.length
      reply := some { body := r.2 }
      lastOutcome := r.1
      statusSent := isSpi h
      lastSent := if isSpi h then some (if params.isEmpty then capture else 0) else p.lastSent }

/-- A read-type command row: judged when the port awaits it (log entry 2). -/
def State.runRead (s : State) (h : HostId) (c : Command) (params : List Byte)
    (judge : State → CmdOutcome × ReplyBody) : State :=
  if (s.port h).awaits c then s.fixReply h c params (judge s) else s

/-- A write-type command row: judged at its frame end when the port awaits it (log entry 2). -/
def State.runWrite (s : State) (h : HostId) (c : Command)
    (judge : State → CmdOutcome × State) : State :=
  if (s.port h).awaits c then (judge s).2.finishFrame h (judge s).1 else s

/-! ### Transfer -/

/-- The length of a reply (R165). -/
def ReplyBody.length : ReplyBody → Nat
  | .fixed bytes => bytes.length
  | .status bytes _ => bytes.length
  | .drain n => 2 + 12 * n
  | .notices n => 2 + 8 * n

/-- The reply byte count at which the item now in transfer is whole: a record, a notice, or the
discarded-records count field, whose last byte is byte 12 (R166, R181). -/
def Reply.itemEnd (r : Reply) : Option Nat :=
  let member (size count : Nat) : Option Nat :=
    let k := (r.transferred - 2) / size
    if k < count then some (2 + size * (k + 1)) else none
  match r.body with
  | .fixed _ => none
  | .status _ _ => if r.transferred < 13 then some 13 else none
  | .drain n => member 12 n
  | .notices n => member 8 n

/-- The bytes of the queue member now at the head, or of none once a teardown has emptied the queue
(R88, R134). -/
def State.headBytes (s : State) (h : HostId) : ReplyBody → List Byte
  | .drain _ => ((s.resultQueue h).records.head?.map ResultRecord.bytes).getD []
  | .notices _ => ((s.noticeQueue h).notices.head?.map Notice.bytes).getD []
  | _ => []

/-- Byte `i` of a reply, as it goes out (R165, R181). Once a teardown has ended the session, all that is
left of a drain or notice reply goes out as 0x00, the count byte included (R88, R134, R150). DEDUCED (log
entry 28): the session tells, since such a reply is fixed for an ATTACHED host alone and no Attach of its
own can be judged before its frame has ended. -/
def State.replyByte (s : State) (h : HostId) (body : ReplyBody) (i : Nat) : Byte :=
  let member (size count : Nat) : Byte :=
    if (s.session h).state = .attached then
      match i with
      | 0 => CmdOutcome.ok.code
      | 1 => byteOf count
      | j + 2 => ((s.headBytes h body)[j % size]?).getD 0
    else 0x00
  match body with
  | .fixed bytes => (bytes[i]?).getD 0
  | .status bytes _ => (bytes[i]?).getD 0
  | .drain n => member 12 n
  | .notices n => member 8 n

/-- The fill byte: 0x00 on an SPI port, 0xFF on the I2C port (R165). -/
def fillByte (h : HostId) : Byte := if isSpi h then 0x00 else 0xFF

/-- The byte the port sends next, or none while it drives nothing (R161, R162, R172, R173). -/
def State.outByte (s : State) (h : HostId) : Option Byte :=
  let p := s.port h
  let drives := if isSpi h then p.phase != .idle else p.readPhase == .begun
  if drives then
    if p.statusSent then
      match p.reply with
      | some r =>
        if r.transferred < r.body.length then some (s.replyByte h r.body r.transferred)
        else some (fillByte h)
      | none => some (fillByte h)
    else p.statusCapture
  else none

/-- The read phase after a byte's acknowledge bit: a NACK ends it (R172). -/
def ReadPhase.afterAck (r : ReadPhase) (h : HostId) (ack : Bool) : ReadPhase :=
  if isSpi h || ack then r else .ended

/-- What follows when an item of a reply is whole (R166): a record leaves, a notice leaves, or the
discarded-records count is lowered. -/
def State.itemDelivered (s : State) (h : HostId) : ReplyBody → State
  | .fixed _ => s
  | .status _ reported => s.lowerDiscarded h reported
  | .drain _ => s.recordLeaves h
  | .notices _ => s.noticeLeaves h

/-- A reply's bytes are transferred up to a count, the last with this acknowledge bit, and what that
completes follows (R166, R172). -/
def State.transferTo (s : State) (h : HostId) (r : Reply) (count : Nat) (ack : Bool) : State :=
  let p := s.port h
  let s' := s.setPort h
    { p with
      reply := some { r with transferred := count }
      statusSent := true
      lastSent := some (s.replyByte h r.body (count - 1))
      readPhase := p.readPhase.afterAck h ack }
  if r.itemEnd = some count then s'.itemDelivered h r.body else s'

/-- The transfer of a byte that belongs to no item: a status byte, a byte while no reply is fixed, or
fill (R165, R166). -/
def State.sendPlain (s : State) (h : HostId) (b : Byte) (ack : Bool) : State :=
  let p := s.port h
  s.setPort h
    { p with statusSent := true, lastSent := some b, readPhase := p.readPhase.afterAck h ack }

/-- The next byte is transferred (R166). -/
def State.transferByte (s : State) (h : HostId) (ack : Bool) : State :=
  match s.outByte h with
  | none => s
  | some b =>
    match (s.port h).statusSent, (s.port h).reply with
    | true, some r =>
      if r.transferred < r.body.length then s.transferTo h r (r.transferred + 1) ack
      else s.sendPlain h b ack
    | _, _ => s.sendPlain h b ack

/-- The bytes up to the end of the item in transfer are transferred, when the reply carries such items
(log entry 13). -/
def State.transferItem (s : State) (h : HostId) (carries : ReplyBody → Bool) (ack : Bool) : State :=
  match s.outByte h, (s.port h).reply with
  | some _, some r =>
    match carries r.body, r.itemEnd with
    | true, some count => s.transferTo h r count ack
    | _, _ => s
  | _, _ => s

end Sys2Proof.Machine
end

