-- ==== Sys2Proof/Machine/Drains.lean ====
section
/-! DEFINITION. DRAIN_RESULTS and READ_NOTICES, and the transfer of reply bytes, records, notices and
the discarded-records count (R77, R85, R86, R133, R134, R166). -/

namespace Sys2Proof.Machine

/-- The judgement of Drain Results: the count is fixed (R85). -/
def answerDrainResults (h : HostId) (params : List Byte) (s : State) : CmdOutcome × ReplyBody :=
  s.answer h (countField 64 (field params 0 1)) fun maximum =>
    (.ok, .drain (min maximum (s.resultQueue h).records.length))

/-- The judgement of Read Notices: the count is fixed (R133). -/
def answerReadNotices (h : HostId) (params : List Byte) (s : State) : CmdOutcome × ReplyBody :=
  s.answer h (countField 16 (field params 0 1)) fun maximum =>
    (.ok, .notices (min maximum (s.noticeQueue h).notices.length))

def ReplyBody.isDrain : ReplyBody → Bool
  | .drain _ => true
  | _ => false

def ReplyBody.isNotices : ReplyBody → Bool
  | .notices _ => true
  | _ => false

def ReplyBody.isStatus : ReplyBody → Bool
  | .status _ _ => true
  | _ => false

/-- DRAIN_RESULTS (R85). -/
def execDrainResults (h : HostId) (maximum : Byte) (s : State) : Host.Outcome State Fault Refusal :=
  .next (s.runRead h .drainResults [maximum] (answerDrainResults h [maximum]))

/-- READ_NOTICES (R133). -/
def execReadNotices (h : HostId) (maximum : Byte) (s : State) : Host.Outcome State Fault Refusal :=
  .next (s.runRead h .readNotices [maximum] (answerReadNotices h [maximum]))

/-- RECORD_TRANSFERRED (R86): the record in transfer is transferred to its last byte and leaves the
head of the queue. -/
def execRecordTransferred (h : HostId) (ack : Bool) (s : State) : Host.Outcome State Fault Refusal :=
  .next (s.transferItem h ReplyBody.isDrain ack)

/-- NOTICE_TRANSFERRED (R134): the notice in transfer is transferred to its last byte and leaves the
head of the queue. -/
def execNoticeTransferred (h : HostId) (ack : Bool) (s : State) : Host.Outcome State Fault Refusal :=
  .next (s.transferItem h ReplyBody.isNotices ack)

/-- DISCARD_COUNT_TRANSFERRED (R77, R181): a Read Status reply is transferred up to byte 12, the last
of the count field, and the count is lowered by the value reported. -/
def execDiscardCountTransferred (h : HostId) (ack : Bool) (s : State) :
    Host.Outcome State Fault Refusal :=
  .next (s.transferItem h ReplyBody.isStatus ack)

/-- REPLY_BYTE_TRANSFERRED (R166): the next byte that the port presents is transferred. -/
def execReplyByteTransferred (h : HostId) (ack : Bool) (s : State) :
    Host.Outcome State Fault Refusal :=
  .next (s.transferByte h ack)

end Sys2Proof.Machine
end

