-- ==== Sys2Proof/Machine/Jobs.lean ====
section
/-! DEFINITION. SUBMIT_JOB, WITHDRAW_JOB and READ_JOB (chapter 1). -/

namespace Sys2Proof.Machine

/-- The admission of a job (R16): it takes a slot, and with source NOW it enters its Ready List, which
is a scheduling occasion. -/
def State.admitJob (s : State) (j : Job) : State :=
  let s := s.setJobs (s.jobs ++ [j])
  if j.state = .ready then (s.setReady j.cls (s.ready.get j.cls ++ [j.id])).schedule else s

/-- The judgement of Submit Job: length, session, fields, tag and slot rule, in this order (R12). -/
def judgeSubmitJob (h : HostId) (params : List Byte) (s : State) : CmdOutcome × State :=
  s.judge h (lengthOk .submitJob params) (parseJob h params) fun j =>
    if (s.findJob j.id).isSome then (.tagInUse, s)
    else if s.slotRuleAdmits h then (.ok, s.admitJob j)
    else (.noSlot, s)

/-- The condition of the early refusal: host 2 is ATTACHED and the slot rule would refuse it (R17). -/
def State.refusesEarly (s : State) : Bool :=
  (s.session 2).state == .attached && !s.slotRuleAdmits 2

/-- The judgement of a whole Submit Job frame: on the I2C port, a command byte not yet taken meets the
early refusal first, so NO_SLOT stands in place of any outcome of the five checks (R17, R170). -/
def judgeSubmitFrame (h : HostId) (params : List Byte) (s : State) : CmdOutcome × State :=
  if h = 2 ∧ (s.port h).phase ≠ .parameters ∧ s.refusesEarly then (.noSlot, s)
  else judgeSubmitJob h params s

/-- A withdrawal: a scheduling occasion when the job's pass was in progress (R24, R50). -/
def State.withdraw (s : State) (j : Job) : State :=
  if j.inPass then (s.removeJob j).schedule else s.removeJob j

/-- The judgement of Withdraw Job (R24). A completion of the job that has been reported before it runs in
full at the Job Table and the scheduler first (R25, R50). -/
def judgeWithdrawJob (h : HostId) (params : List Byte) (s : State) : CmdOutcome × State :=
  s.judge h (lengthOk .withdrawJob params) (tagParam params) fun tag =>
    let s := s.settle [.job] (· == ⟨h, tag⟩)
    match s.findJob ⟨h, tag⟩ with
    | none => (.noSuchJob, s)
    | some j => (.ok, s.withdraw j)

/-- The judgement of Read Job (R26). -/
def answerReadJob (h : HostId) (params : List Byte) (s : State) : CmdOutcome × ReplyBody :=
  s.answer h (tagParam params) fun tag =>
    match s.findJob ⟨h, tag⟩ with
    | none => refusalReply .noSuchJob
    | some j => (.ok, .fixed j.reply)

/-- SUBMIT_JOB (R12 to R17). -/
def execSubmitJob (h : HostId) (params : List Byte) (s : State) : Host.Outcome State Fault Refusal :=
  .next (s.runWrite h .submitJob (judgeSubmitFrame h params))

/-- WITHDRAW_JOB (R24). -/
def execWithdrawJob (h : HostId) (params : List Byte) (s : State) : Host.Outcome State Fault Refusal :=
  .next (s.runWrite h .withdrawJob (judgeWithdrawJob h params))

/-- READ_JOB (R26). -/
def execReadJob (h : HostId) (tag : Byte) (s : State) : Host.Outcome State Fault Refusal :=
  .next (s.runRead h .readJob [tag] (answerReadJob h [tag]))

end Sys2Proof.Machine
end

