-- ==== Sys2Proof/Machine/Sessions.lean ====
section
/-! DEFINITION. ATTACH, DETACH, SET_HOST_OPTIONS and READ_STATUS (chapter 8). -/

namespace Sys2Proof.Machine

/-- An accepted Attach (R144). -/
def State.openSession (s : State) (h : HostId) (o : HostOptions) : State :=
  let s := s.setSession h { state := .attached, options := o, lease := o.leaseTicks }
  s.setResultQueue h { s.resultQueue h with discarded := 0 }

/-- The judgement of Attach: its checks stand in their own order (R143). -/
def judgeAttach (h : HostId) (params : List Byte) (s : State) : CmdOutcome × State :=
  if lengthOk .attach params then
    if (s.session h).state = .attached then (.wrongState, s)
    else
      match attachOptions params with
      | none => (.badParam, s)
      | some o => (.ok, s.openSession h o)
  else (.frameError, s)

/-- The judgement of Detach (R145). -/
def judgeDetach (h : HostId) (params : List Byte) (s : State) : CmdOutcome × State :=
  s.judge h (lengthOk .detach params) (some ()) fun _ => (.ok, s.teardown h .detached)

/-- An accepted Set Host Options: all five options at once, the stale mark recomputed from the new
interval, the lease timer restarted with the new length, and a scheduling occasion when the full
policy changes to DISCARD (R83, R146, R147; log entry 9). -/
def State.replaceOptions (s : State) (h : HostId) (o : HostOptions) : State :=
  let freed := (s.session h).options.fullPolicy == .wait && o.fullPolicy == .discard
  let s := (s.setSession h { s.session h with options := o }).restartLease h
  let s := s.testStale h
  if freed then s.schedule else s

/-- The judgement of Set Host Options (R146). -/
def judgeSetHostOptions (h : HostId) (params : List Byte) (s : State) : CmdOutcome × State :=
  s.judge h (lengthOk .setHostOptions params) (HostOptions.parse params) fun o =>
    (.ok, s.replaceOptions h o)

/-- The judgement of Read Status: OK in every session state (R141, R155). -/
def answerReadStatus (h : HostId) (s : State) : CmdOutcome × ReplyBody :=
  (.ok, .status (s.statusReply h) (s.resultQueue h).discarded)

/-- ATTACH (R143, R144). -/
def execAttach (h : HostId) (params : List Byte) (s : State) : Host.Outcome State Fault Refusal :=
  .next (s.runWrite h .attach (judgeAttach h params))

/-- DETACH (R145, R151). -/
def execDetach (h : HostId) (params : List Byte) (s : State) : Host.Outcome State Fault Refusal :=
  .next (s.runWrite h .detach (judgeDetach h params))

/-- SET_HOST_OPTIONS (R146). -/
def execSetHostOptions (h : HostId) (params : List Byte) (s : State) :
    Host.Outcome State Fault Refusal :=
  .next (s.runWrite h .setHostOptions (judgeSetHostOptions h params))

/-- READ_STATUS (R155). -/
def execReadStatus (h : HostId) (s : State) : Host.Outcome State Fault Refusal :=
  .next (s.runRead h .readStatus [] (answerReadStatus h))

end Sys2Proof.Machine
end

