-- ==== Sys2Proof/Machine/Channels.lean ====
section
/-! DEFINITION. CLAIM_CHANNEL, RELEASE_CHANNEL, CONFIGURE_CHANNEL and READ_CHANNEL (section 3.6). -/

namespace Sys2Proof.Machine

/-- A thing with an owner is open to a host: it has no owner, or the host is its owner (R62, R64, R94,
R114). -/
def openTo (owner : Option HostId) (h : HostId) : Bool := owner == none || owner == some h

/-- The judgement of Claim Channel (R61, R62). -/
def judgeClaimChannel (h : HostId) (params : List Byte) (s : State) : CmdOutcome × State :=
  s.judge h (lengthOk .claimChannel params) (channelParam params) fun c =>
    if openTo (s.channel c).owner h then (.ok, s.setChannel c { s.channel c with owner := some h })
    else (.heldByOther, s)

/-- The judgement of Release Channel (R61, R63). -/
def judgeReleaseChannel (h : HostId) (params : List Byte) (s : State) : CmdOutcome × State :=
  s.judge h (lengthOk .releaseChannel params) (channelParam params) fun c =>
    if (s.channel c).owner = some h then (.ok, s.setChannel c { s.channel c with owner := none })
    else (.notOwner, s)

/-- The judgement of Configure Channel (R61, R64). -/
def judgeConfigureChannel (h : HostId) (params : List Byte) (s : State) : CmdOutcome × State :=
  s.judge h (lengthOk .configureChannel params) (configureParams params) fun (c, setting, rate) =>
    if openTo (s.channel c).owner h then (.ok, s.setChannel c { s.channel c with setting, rate })
    else (.heldByOther, s)

/-- The judgement of Read Channel (R68). -/
def answerReadChannel (h : HostId) (params : List Byte) (s : State) : CmdOutcome × ReplyBody :=
  s.answer h (channelParam params) fun c => (.ok, .fixed (s.channel c).reply)

/-- CLAIM_CHANNEL (R62). -/
def execClaimChannel (h : HostId) (params : List Byte) (s : State) : Host.Outcome State Fault Refusal :=
  .next (s.runWrite h .claimChannel (judgeClaimChannel h params))

/-- RELEASE_CHANNEL (R63). -/
def execReleaseChannel (h : HostId) (params : List Byte) (s : State) :
    Host.Outcome State Fault Refusal :=
  .next (s.runWrite h .releaseChannel (judgeReleaseChannel h params))

/-- CONFIGURE_CHANNEL (R64). -/
def execConfigureChannel (h : HostId) (params : List Byte) (s : State) :
    Host.Outcome State Fault Refusal :=
  .next (s.runWrite h .configureChannel (judgeConfigureChannel h params))

/-- READ_CHANNEL (R68). -/
def execReadChannel (h : HostId) (channel : Byte) (s : State) : Host.Outcome State Fault Refusal :=
  .next (s.runRead h .readChannel [channel] (answerReadChannel h [channel]))

end Sys2Proof.Machine
end

