-- ==== Sys2Proof/Machine/Triggers.lean ====
section
/-! DEFINITION. CLAIM_TRIGGER, RELEASE_TRIGGER, PROGRAM_TRIGGER, START_TRIGGER, STOP_TRIGGER and
READ_TRIGGER (section 5.2). -/

namespace Sys2Proof.Machine

/-- The judgement of Claim Trigger (R93, R94). -/
def judgeClaimTrigger (h : HostId) (params : List Byte) (s : State) : CmdOutcome × State :=
  s.judge h (lengthOk .claimTrigger params) (generatorParam params) fun g =>
    if openTo (s.generator g).owner h then
      (.ok, s.setGenerator g { s.generator g with owner := some h })
    else (.heldByOther, s)

/-- The judgement of Release Trigger (R93, R95). -/
def judgeReleaseTrigger (h : HostId) (params : List Byte) (s : State) : CmdOutcome × State :=
  s.judge h (lengthOk .releaseTrigger params) (generatorParam params) fun g =>
    if (s.generator g).owner = some h then (.ok, s.setGenerator g (s.generator g).released)
    else (.notOwner, s)

/-- A generator with its six programmed fields replaced (R96). -/
def Generator.programmed (g : Generator) (p : TriggerProgram) : Generator :=
  { g with mode := p.mode, delay := p.delay, period := p.period, fraction := p.fraction,
           burst := p.burst, start := p.start }

/-- The judgement of Program Trigger (R93, R96). -/
def judgeProgramTrigger (h : HostId) (params : List Byte) (s : State) : CmdOutcome × State :=
  s.judge h (lengthOk .programTrigger params) (programParams params) fun (g, p) =>
    if (s.generator g).owner = some h then
      if (s.generator g).state = .stopped then (.ok, s.setGenerator g ((s.generator g).programmed p))
      else (.wrongState, s)
    else (.notOwner, s)

/-- An accepted Start Trigger: a fresh count and accumulator, then DELAYING or WAITING_EDGE (R97). A
firing at once is a scheduling occasion. -/
def State.startGenerator (s : State) (g : GeneratorId) : State :=
  let x := { s.generator g with firings := 0, accumulator := 0 }
  match x.start with
  | .command => ((s.setGenerator g x).enterDelaying g).schedule
  | .external _ _ => s.setGenerator g { x with state := .waitingEdge }

/-- The judgement of Start Trigger (R93, R97). -/
def judgeStartTrigger (h : HostId) (params : List Byte) (s : State) : CmdOutcome × State :=
  s.judge h (lengthOk .startTrigger params) (generatorParam params) fun g =>
    if (s.generator g).owner = some h then
      if (s.generator g).state = .stopped then (.ok, s.startGenerator g) else (.wrongState, s)
    else (.notOwner, s)

/-- The judgement of Stop Trigger (R93, R102). -/
def judgeStopTrigger (h : HostId) (params : List Byte) (s : State) : CmdOutcome × State :=
  s.judge h (lengthOk .stopTrigger params) (generatorParam params) fun g =>
    if (s.generator g).owner = some h then (.ok, s.setGenerator g (s.generator g).stopped)
    else (.notOwner, s)

/-- The judgement of Read Trigger (R103). -/
def answerReadTrigger (h : HostId) (params : List Byte) (s : State) : CmdOutcome × ReplyBody :=
  s.answer h (generatorParam params) fun g => (.ok, .fixed (s.generator g).reply)

/-- CLAIM_TRIGGER (R94). -/
def execClaimTrigger (h : HostId) (params : List Byte) (s : State) : Host.Outcome State Fault Refusal :=
  .next (s.runWrite h .claimTrigger (judgeClaimTrigger h params))

/-- RELEASE_TRIGGER (R95). -/
def execReleaseTrigger (h : HostId) (params : List Byte) (s : State) :
    Host.Outcome State Fault Refusal :=
  .next (s.runWrite h .releaseTrigger (judgeReleaseTrigger h params))

/-- PROGRAM_TRIGGER (R96). -/
def execProgramTrigger (h : HostId) (params : List Byte) (s : State) :
    Host.Outcome State Fault Refusal :=
  .next (s.runWrite h .programTrigger (judgeProgramTrigger h params))

/-- START_TRIGGER (R97). -/
def execStartTrigger (h : HostId) (params : List Byte) (s : State) : Host.Outcome State Fault Refusal :=
  .next (s.runWrite h .startTrigger (judgeStartTrigger h params))

/-- STOP_TRIGGER (R102). -/
def execStopTrigger (h : HostId) (params : List Byte) (s : State) : Host.Outcome State Fault Refusal :=
  .next (s.runWrite h .stopTrigger (judgeStopTrigger h params))

/-- READ_TRIGGER (R103). -/
def execReadTrigger (h : HostId) (generator : Byte) (s : State) : Host.Outcome State Fault Refusal :=
  .next (s.runRead h .readTrigger [generator] (answerReadTrigger h [generator]))

end Sys2Proof.Machine
end

