-- ==== Sys2Proof/Machine/Watches.lean ====
section
/-! DEFINITION. SET_WATCH, CLEAR_WATCH and READ_WATCH (section 6.2). -/

namespace Sys2Proof.Machine

/-- The judgement of Set Watch (R113, R114). -/
def judgeSetWatch (h : HostId) (params : List Byte) (s : State) : CmdOutcome × State :=
  s.judge h (lengthOk .setWatch params) (watchParams h params) fun (w, x) =>
    if openTo (s.watch w).owner h then (.ok, s.setWatch w x) else (.heldByOther, s)

/-- The judgement of Clear Watch (R113, R115). -/
def judgeClearWatch (h : HostId) (params : List Byte) (s : State) : CmdOutcome × State :=
  s.judge h (lengthOk .clearWatch params) (watchParam params) fun w =>
    if (s.watch w).owner = some h then (.ok, s.setWatch w (s.watch w).freed) else (.notOwner, s)

/-- The judgement of Read Watch (R116). -/
def answerReadWatch (h : HostId) (params : List Byte) (s : State) : CmdOutcome × ReplyBody :=
  s.answer h (watchParam params) fun w => (.ok, .fixed (s.watch w).reply)

/-- SET_WATCH (R114). -/
def execSetWatch (h : HostId) (params : List Byte) (s : State) : Host.Outcome State Fault Refusal :=
  .next (s.runWrite h .setWatch (judgeSetWatch h params))

/-- CLEAR_WATCH (R115). -/
def execClearWatch (h : HostId) (params : List Byte) (s : State) : Host.Outcome State Fault Refusal :=
  .next (s.runWrite h .clearWatch (judgeClearWatch h params))

/-- READ_WATCH (R116). -/
def execReadWatch (h : HostId) (watch : Byte) (s : State) : Host.Outcome State Fault Refusal :=
  .next (s.runRead h .readWatch [watch] (answerReadWatch h [watch]))

end Sys2Proof.Machine
end

