-- ==== Sys2Proof/Machine/Ports.lean ====
section
/-! DEFINITION. The frame events of the host ports (chapter 9): FRAME_BEGIN, BYTE_TAKEN,
I2C_BYTE_REFUSED, READ_PHASE_BEGIN and FRAME_END. -/

namespace Sys2Proof.Machine

/-- The judgement of a write-type command from the bytes of its frame. A read-type command is never
judged here (R159). -/
def judgeWrite (c : Command) (h : HostId) (params : List Byte) (s : State) : CmdOutcome × State :=
  match c with
  | .attach => judgeAttach h params s
  | .detach => judgeDetach h params s
  | .setHostOptions => judgeSetHostOptions h params s
  | .submitJob => judgeSubmitJob h params s
  | .withdrawJob => judgeWithdrawJob h params s
  | .claimChannel => judgeClaimChannel h params s
  | .releaseChannel => judgeReleaseChannel h params s
  | .configureChannel => judgeConfigureChannel h params s
  | .claimTrigger => judgeClaimTrigger h params s
  | .releaseTrigger => judgeReleaseTrigger h params s
  | .programTrigger => judgeProgramTrigger h params s
  | .startTrigger => judgeStartTrigger h params s
  | .stopTrigger => judgeStopTrigger h params s
  | .setWatch => judgeSetWatch h params s
  | .clearWatch => judgeClearWatch h params s
  | .readStatus | .readJob | .drainResults | .readNotices | .readChannel | .readTrigger | .readWatch =>
    (.frameError, s)

/-- The judgement of a read-type command at its last parameter byte (R164). A write-type command is
never judged here. -/
def answerRead (c : Command) (h : HostId) (params : List Byte) (s : State) : CmdOutcome × ReplyBody :=
  match c with
  | .readStatus => answerReadStatus h s
  | .readJob => answerReadJob h params s
  | .drainResults => answerDrainResults h params s
  | .readNotices => answerReadNotices h params s
  | .readChannel => answerReadChannel h params s
  | .readTrigger => answerReadTrigger h params s
  | .readWatch => answerReadWatch h params s
  | _ => refusalReply .frameError

/-! ### The beginning of a frame -/

/-- A frame begins: the status capture is taken (R158, R160). On the I2C port a direction bit R begins
the read phase at once (R173). -/
def State.beginFrame (s : State) (h : HostId) (read : Bool) : State :=
  s.setPort h
    { phase := .command, statusCapture := some (s.statusByte h),
      readPhase := if read then .begun else .notBegun, lastOutcome := (s.port h).lastOutcome }

/-! ### Bytes taken or refused -/

/-- The outcome for which the I2C port refuses a written byte, if it does (the table of R170). -/
def State.refusalOf (s : State) (b : Byte) : Option CmdOutcome :=
  let p := s.port 2
  match p.phase with
  | .command =>
    match Command.ofCode b with
    | none => some .unknownCommand
    | some .submitJob => if s.refusesEarly then some .noSlot else none
    | some _ => none
  | .parameters =>
    match p.command.bind Command.ofCode with
    | some c => if greatestLength c p.params ≤ p.params.length then some .frameError else none
    | none => none
  | .reply => some .frameError
  | _ => none

/-- The I2C port takes written bytes: a frame is in progress and no read phase has begun. -/
def State.i2cWrites (s : State) : Bool :=
  (s.port 2).phase != .idle && (s.port 2).readPhase == .notBegun

/-- The I2C port refuses a byte: a pending outcome is set and the phase is DISCARDING; no byte of a
reply already judged will be sent (R170, R171). The refused command byte counts as the frame's command
byte (R17, R147; log entry 20). -/
def State.refuseByte (s : State) (b : Byte) (o : CmdOutcome) : State :=
  let p := s.port 2
  s.setPort 2
    { p with
      phase := .discarding
      pendingOutcome := some o
      command := some (p.command.getD b)
      reply := none }

/-- The port record with the MISO byte that an SPI port sends in a written byte's clocks: the status
byte with the command byte, 0x00 after it (R162; log entry 12). -/
def Port.clocked (p : Port) (h : HostId) : Port :=
  if isSpi h then
    { p with statusSent := true, lastSent := if p.phase = .command then p.statusCapture else some 0 }
  else p

/-- The command byte is taken (R158, R162, R177). -/
def State.takeCommand (s : State) (h : HostId) (b : Byte) : State :=
  let p := (s.port h).clocked h
  match Command.ofCode b with
  | none => s.setPort h { p with phase := .discarding, command := some b }
  | some .readStatus => s.fixReply h .readStatus [] (answerReadStatus h s)
  | some c =>
    s.setPort h { p with phase := .parameters, command := some b, required := requiredLength c [] }

/-- A parameter byte is taken; the last one of a read-type command judges it (R158, R164, R169). -/
def State.takeParam (s : State) (h : HostId) (b : Byte) : State :=
  let p := (s.port h).clocked h
  let params := p.params ++ [b]
  match p.command.bind Command.ofCode with
  | none => s
  | some c =>
    if c.isRead then s.fixReply h c params (answerRead c h params s)
    else s.setPort h { p with params := params, required := requiredLength c params }

/-- A byte that the port accepts, by its phase. MOSI bytes in REPLY and DISCARDING are ignored (R162),
and so is any byte outside a frame (R161, R167). -/
def State.acceptByte (s : State) (h : HostId) (b : Byte) : State :=
  match (s.port h).phase with
  | .command => s.takeCommand h b
  | .parameters => s.takeParam h b
  | _ => s

/-- A written byte arrives on a port: the I2C port may refuse it (R169, R170). -/
def State.writeByte (s : State) (h : HostId) (b : Byte) : State :=
  if isSpi h then s.acceptByte h b
  else if s.i2cWrites then
    match s.refusalOf b with
    | some o => s.refuseByte b o
    | none => s.acceptByte h b
  else s

/-! ### The end of a frame -/

/-- The end of a frame whose command byte was `code`, by the cases of R159; `partialByte` says that an
SPI frame ended inside a byte (R161). -/
def State.endCommand (s : State) (h : HostId) (code : Byte) (partialByte : Bool) : State :=
  let p := s.port h
  match p.pendingOutcome, Command.ofCode code with
  | some o, _ => s.finishFrame h o
  | none, none => s.finishFrame h .unknownCommand
  | none, some c =>
    if c.isRead then
      if p.phase = .reply then s.finishFrame h p.lastOutcome else s.finishFrame h .frameError
    else if partialByte || p.required != some p.params.length then s.finishFrame h .frameError
    else
      let r := judgeWrite c h p.params s
      r.2.finishFrame h r.1

/-- The end of the frame in progress on a port; without a command byte it records no outcome and
renews no lease (R159). With no frame in progress nothing ends. -/
def State.endFrame (s : State) (h : HostId) (partialByte : Bool) : State :=
  if (s.port h).phase = .idle then s
  else
    match (s.port h).command with
    | none => s.idlePort h
    | some code => s.endCommand h code partialByte

/-- A START or repeated START on the I2C bus with an address and a direction bit (R167, R168, R171). -/
def State.i2cStart (s : State) (address : BitVec 7) (read : Bool) : State :=
  let own := address == s.i2cAddress
  let p := s.port 2
  match p.phase with
  | .idle => if own then s.beginFrame 2 read else s
  | .discarding => s
  | _ =>
    if own && read && p.readPhase == .notBegun then s.setPort 2 { p with readPhase := .begun }
    else
      let s := s.endFrame 2 false
      if own then s.beginFrame 2 read else s

/-- The host of an SPI port (R157). -/
def spiHost (p : SpiPort) : HostId := p.castSucc

/-- FRAME_BEGIN (R158, R161, R168). CS cannot fall during an SPI frame (log entry 3); a START during an
I2C frame is a repeated START. -/
def execFrameBegin (how : FrameStart) (s : State) : Host.Outcome State Fault Refusal :=
  match how with
  | .csFall port =>
    if (s.port (spiHost port)).phase = .idle then .next (s.beginFrame (spiHost port) false) else .next s
  | .start address read => .next (s.i2cStart address read)

/-- FRAME_END (R159, R161, R168). -/
def execFrameEnd (how : FrameStop) (s : State) : Host.Outcome State Fault Refusal :=
  match how with
  | .csRise port partialByte => .next (s.endFrame (spiHost port) partialByte)
  | .stop => .next (s.endFrame 2 false)
  | .repeatedStart address read => .next (s.i2cStart address read)

/-- BYTE_TAKEN (R158, R161 to R164, R169). -/
def execByteTaken (h : HostId) (b : Byte) (s : State) : Host.Outcome State Fault Refusal :=
  .next (s.writeByte h b)

/-- I2C_BYTE_REFUSED (R170). A byte that the port accepts is not refused (log entry 3). -/
def execI2cByteRefused (b : Byte) (s : State) : Host.Outcome State Fault Refusal :=
  match s.i2cWrites, s.refusalOf b with
  | true, some o => .next (s.refuseByte b o)
  | _, _ => .next s

/-- READ_PHASE_BEGIN (R172, R173): a repeated START with the port's address and R. -/
def execReadPhaseBegin (s : State) : Host.Outcome State Fault Refusal :=
  .next (s.i2cStart s.i2cAddress true)

end Sys2Proof.Machine
end

