-- ==== Sys2Proof/Machine/Time.lean ====
section
/-! DEFINITION. The events of the timebase: TIMEBASE_TICK and the expiries of a generator's delay or
period, of a lease timer and of a stale interval (R83, R90, R99, R100, R148, R149). -/

namespace Sys2Proof.Machine

/-- A generator's count has reached 0 in a state: its firing is due (R99, R100). -/
def Generator.due (g : Generator) (st : GeneratorState) : Bool := g.state == st && g.remaining == some 0

/-- The firing that is due in DELAYING (R99). -/
def State.expireDelay (s : State) (g : GeneratorId) : State :=
  if (s.generator g).due .delaying then (s.fireGenerator g).schedule else s

/-- The firing that is due in RUNNING (R100). -/
def State.expirePeriod (s : State) (g : GeneratorId) : State :=
  if (s.generator g).due .running then (s.fireGenerator g).schedule else s

/-- A lease timer at 0 expires: teardown, and the session ends LAPSED (R149). -/
def State.expireLease (s : State) (h : HostId) : State :=
  if (s.session h).state = .attached ∧ (s.session h).lease = some 0 then s.teardown h .lapsed else s

/-- The stale mark is set when the head's age has reached the interval; it stays set (R83). -/
def State.reachStale (s : State) (h : HostId) : State :=
  if s.headReached h (s.resultQueue h).records then
    s.setResultQueue h { s.resultQueue h with staleMark := true }
  else s

/-- The expiries still due are taken, before the next tick (log entry 5). -/
def State.takeDue (s : State) : State :=
  let s := allGenerators.foldl (fun s g => (s.expireDelay g).expirePeriod g) s
  let s := allHosts.foldl State.expireLease s
  allHosts.foldl State.reachStale s

/-- A generator at one tick: its ticks remaining count down (R99, R100). -/
def Generator.tick (g : Generator) : Generator := { g with remaining := g.remaining.map (· - 1) }

/-- A session at one tick: its lease timer counts down (R148). -/
def Session.tick (x : Session) : Session := { x with lease := x.lease.map (· - 1) }

/-- The tick itself: the timebase and every count run on (R90, R99, R100, R148). -/
def State.tick (s : State) : State :=
  { s with
    timebase := s.timebase + 1
    generators := s.generators.map Generator.tick
    sessions := s.sessions.map Session.tick }

/-- TIMEBASE_TICK (R90): what the moment before it still leaves is taken first (log entries 5, 6). -/
def execTimebaseTick (s : State) : Host.Outcome State Fault Refusal := .next s.finishCompletion.takeDue.tick

/-- TRIGGER_DELAY_EXPIRY (R99). -/
def execTriggerDelayExpiry (g : GeneratorId) (s : State) : Host.Outcome State Fault Refusal :=
  .next (s.expireDelay g)

/-- TRIGGER_PERIOD_EXPIRY (R100). -/
def execTriggerPeriodExpiry (g : GeneratorId) (s : State) : Host.Outcome State Fault Refusal :=
  .next (s.expirePeriod g)

/-- LEASE_TIMER_EXPIRY (R149). -/
def execLeaseTimerExpiry (h : HostId) (s : State) : Host.Outcome State Fault Refusal :=
  .next (s.expireLease h)

/-- STALE_INTERVAL_REACHED (R83). -/
def execStaleIntervalReached (h : HostId) (s : State) : Host.Outcome State Fault Refusal :=
  .next (s.reachStale h)

end Sys2Proof.Machine
end

