-- ==== Sys2Proof/Machine/Dispatch.lean ====
section
/-! DEFINITION. The dispatch: one arm per row of spec/opcode_table.json, in the table's order. -/

namespace Sys2Proof.Machine

/-- The effect of a command or event on everything but the queue. -/
def exec (i : Instr) (s : State) : Host.Outcome State Fault Refusal :=
  match i with
  | .attach h params => Sys2Proof.Machine.execAttach h params s
  | .detach h params => Sys2Proof.Machine.execDetach h params s
  | .setHostOptions h params => Sys2Proof.Machine.execSetHostOptions h params s
  | .readStatus h => Sys2Proof.Machine.execReadStatus h s
  | .submitJob h params => Sys2Proof.Machine.execSubmitJob h params s
  | .withdrawJob h params => Sys2Proof.Machine.execWithdrawJob h params s
  | .readJob h tag => Sys2Proof.Machine.execReadJob h tag s
  | .drainResults h maximum => Sys2Proof.Machine.execDrainResults h maximum s
  | .readNotices h maximum => Sys2Proof.Machine.execReadNotices h maximum s
  | .claimChannel h params => Sys2Proof.Machine.execClaimChannel h params s
  | .releaseChannel h params => Sys2Proof.Machine.execReleaseChannel h params s
  | .configureChannel h params => Sys2Proof.Machine.execConfigureChannel h params s
  | .readChannel h channel => Sys2Proof.Machine.execReadChannel h channel s
  | .claimTrigger h params => Sys2Proof.Machine.execClaimTrigger h params s
  | .releaseTrigger h params => Sys2Proof.Machine.execReleaseTrigger h params s
  | .programTrigger h params => Sys2Proof.Machine.execProgramTrigger h params s
  | .startTrigger h params => Sys2Proof.Machine.execStartTrigger h params s
  | .stopTrigger h params => Sys2Proof.Machine.execStopTrigger h params s
  | .readTrigger h generator => Sys2Proof.Machine.execReadTrigger h generator s
  | .setWatch h params => Sys2Proof.Machine.execSetWatch h params s
  | .clearWatch h params => Sys2Proof.Machine.execClearWatch h params s
  | .readWatch h watch => Sys2Proof.Machine.execReadWatch h watch s
  | .frameBegin how => Sys2Proof.Machine.execFrameBegin how s
  | .frameEnd how => Sys2Proof.Machine.execFrameEnd how s
  | .i2cByteRefused byte => Sys2Proof.Machine.execI2cByteRefused byte s
  | .readPhaseBegin => Sys2Proof.Machine.execReadPhaseBegin s
  | .recordTransferred h ack => Sys2Proof.Machine.execRecordTransferred h ack s
  | .noticeTransferred h ack => Sys2Proof.Machine.execNoticeTransferred h ack s
  | .discardCountTransferred h ack => Sys2Proof.Machine.execDiscardCountTransferred h ack s
  | .timebaseTick => Sys2Proof.Machine.execTimebaseTick s
  | .triggerDelayExpiry generator => Sys2Proof.Machine.execTriggerDelayExpiry generator s
  | .triggerPeriodExpiry generator => Sys2Proof.Machine.execTriggerPeriodExpiry generator s
  | .leaseTimerExpiry h => Sys2Proof.Machine.execLeaseTimerExpiry h s
  | .staleIntervalReached h => Sys2Proof.Machine.execStaleIntervalReached h s
  | .trigEdge pin level order => Sys2Proof.Machine.execTrigEdge pin level order s
  | .samplingPhaseEnd input => Sys2Proof.Machine.execSamplingPhaseEnd input s
  | .conversionComplete shares => Sys2Proof.Machine.execConversionComplete shares s
  | .deviceReset straps => Sys2Proof.Machine.execDeviceReset straps s
  | .byteTaken h byte => Sys2Proof.Machine.execByteTaken h byte s
  | .replyByteTransferred h ack => Sys2Proof.Machine.execReplyByteTransferred h ack s

end Sys2Proof.Machine
end

