-- ==== Sys2Proof/Safety.lean ====
section
/-! DEFINITION. The laws of the device: what every state that the part can reach is claimed to meet.
Each is written as a decidable proposition over the state. -/

namespace Sys2Proof.Machine

/-- At most 24 slots are occupied, and the free slots number at least the sum of the three unused
guarantees (R1, R15). -/
abbrev State.slotLaw (s : State) : Prop :=
  s.jobs.length + (allHosts.map s.unusedGuarantee).sum ≤ Config.jobSlots

/-- Records and reserved places of a host never exceed 64 (R72). -/
abbrev State.resultLaw (s : State) : Prop :=
  ∀ h ∈ allHosts,
    (s.resultQueue h).records.length + (s.resultQueue h).reserved ≤ Config.resultPlaces

/-- A notice queue holds at most 16 notices and its lost count is at most 255 (R128). -/
abbrev State.noticeLaw (s : State) : Prop :=
  ∀ h ∈ allHosts,
    (s.noticeQueue h).notices.length ≤ Config.noticePlaces ∧ (s.noticeQueue h).lost ≤ 255

/-- The jobs of one host carry distinct tags, none of them 0 (R2, R14, R70). -/
abbrev State.tagLaw (s : State) : Prop :=
  (s.jobs.map Job.id).Nodup ∧ ∀ j ∈ s.jobs, j.id.tag ≠ 0

/-- A host is ATTACHED. -/
abbrev State.isAttached (s : State) (h : HostId) : Prop := (s.session h).state = .attached

/-- Every owner of a job, a channel, a generator or a watch is ATTACHED (R22, R60, R92, R112). -/
abbrev State.ownerLaw (s : State) : Prop :=
  (∀ j ∈ s.jobs, s.isAttached j.id.owner) ∧
  (∀ c : ChannelId, ∀ h ∈ (s.channel c).owner, s.isAttached h) ∧
  (∀ g : GeneratorId, ∀ h ∈ (s.generator g).owner, s.isAttached h) ∧
  (∀ w : WatchId, ∀ h ∈ (s.watch w).owner, s.isAttached h)

/-- A host that is not ATTACHED holds no record, no reserved place, no notice and no lease timer
(R89, R138, R140). -/
abbrev State.departedLaw (s : State) : Prop :=
  ∀ h ∈ allHosts, ¬ s.isAttached h →
    (s.resultQueue h).records = [] ∧ (s.resultQueue h).accounts = ⟨none, none, none⟩ ∧
    (s.resultQueue h).staleMark = false ∧ (s.noticeQueue h) = {} ∧ (s.session h).lease = none

/-- An unowned generator is STOPPED; ticks remaining is present exactly in DELAYING and RUNNING; the
accumulator lies from 0 to 15; and a mode that repeats has a period and a fraction below 16 (R92,
R96). -/
abbrev State.generatorLaw (s : State) : Prop :=
  ∀ g : GeneratorId,
    ((s.generator g).owner = none → (s.generator g).state = .stopped) ∧
    ((s.generator g).remaining.isSome ↔
      (s.generator g).state = .delaying ∨ (s.generator g).state = .running) ∧
    (s.generator g).accumulator ≤ 15 ∧
    ((s.generator g).mode ≠ .once → (s.generator g).period ≠ 0 ∧ (s.generator g).fraction.toNat ≤ 15) ∧
    ((s.generator g).mode = .burst → (s.generator g).burst ≠ 0)

/-- A free watch is UNKNOWN, and every window has low not above high (R112, R113). -/
abbrev State.watchLaw (s : State) : Prop :=
  ∀ w : WatchId,
    ((s.watch w).owner = none → (s.watch w).state = .unknown) ∧ (s.watch w).low ≤ (s.watch w).high

/-- Every job has 1 to 16 entries and a cursor within them, and its counts lie in their ranges
(section 1.2, R7, R9, R11). -/
abbrev State.jobLaw (s : State) : Prop :=
  ∀ j ∈ s.jobs,
    1 ≤ j.entries.length ∧ j.entries.length ≤ 16 ∧ j.cursor < j.entries.length ∧
    j.passesDone ≤ 65535 ∧ j.overruns ≤ 65535 ∧ j.produced ≤ j.cursor ∧ j.discarded ≤ 16 ∧
    (j.passLimit ≠ 0 → j.passesDone < j.passLimit) ∧ (j.pendingTrigger → j.policy = .hold)

/-- The Ready List of a class holds its READY jobs, each once (R28). -/
abbrev State.readyLaw (s : State) : Prop :=
  (∀ c ∈ allClasses, (s.ready.get c).Nodup ∧
    ∀ id ∈ s.ready.get c, ∃ j ∈ s.jobs, j.id = id ∧ j.cls = c ∧ j.state = .ready) ∧
  ∀ j ∈ s.jobs, j.state = .ready → j.id ∈ s.ready.get j.cls

/-- The marker of a class names the one job of the class whose pass is in progress (R30). -/
abbrev State.markerLaw (s : State) : Prop :=
  (∀ c ∈ allClasses, ∀ id ∈ s.marker.get c, ∃ j ∈ s.jobs, j.id = id ∧ j.cls = c ∧ j.inPass) ∧
  ∀ j ∈ s.jobs, j.inPass → s.marker.get j.cls = some j.id

/-- A completion of the job has been reported and the Job Table has not yet taken its share (R36, R57). -/
abbrev State.reported (s : State) (id : JobId) : Prop :=
  ∃ c ∈ s.completion, c.report.job = id ∧ .job ∈ c.left

/-- The converter executes for the one RUNNING job, at its cursor; a job is RUNNING without it only
between the report of its completion and the Job Table's share (R36, R52). -/
abbrev State.converterLaw (s : State) : Prop :=
  (∀ ctx ∈ s.converter, ∃ j ∈ s.jobs, j.id = ctx.job ∧ j.state = .running ∧ j.cursor = ctx.index) ∧
  ∀ j ∈ s.jobs, j.state = .running → s.executes j.id ∨ s.reported j.id

/-- An open completion leaves something to be taken, each thing once and the selection with the Job
Table's share; until the Job Table has taken its share, the job it reports is RUNNING at that entry and
the converter is idle; and no phase ends before the completion is whole (R35, R36, R57). -/
abbrev State.completionLaw (s : State) : Prop :=
  ∀ c ∈ s.completion,
    c.left ≠ [] ∧ c.left.Sublist allShares ∧
    (.job ∈ c.left ↔ .select ∈ c.left) ∧
    (.job ∈ c.left → s.converter = none ∧
      ∃ j ∈ s.jobs, j.id = c.report.job ∧ j.state = .running ∧ j.cursor = c.report.index) ∧
    ∀ ctx ∈ s.converter, ctx.phase = .sampling

/-- A present account belongs to a pass in progress and equals its entries less its records placed
(R73). -/
abbrev State.accountLaw (s : State) : Prop :=
  ∀ h ∈ allHosts, ∀ c ∈ allClasses, ∀ n ∈ s.account h c,
    ∃ j ∈ s.jobs, j.id.owner = h ∧ j.cls = c ∧ j.inPass ∧ n + j.produced = j.entries.length

/-- The rank of a class: 0 is the highest. -/
def JobClass.rank : JobClass → Nat
  | .urgent => 0
  | .normal => 1
  | .background => 2

/-- Nothing that could be served is left waiting: an idle converter leaves no class that qualifies but
between a completion's report and the Job Table's share of it, no URGENT job waits behind a lower class's
conversion, and every SUSPENDED job is of a lower class than the RUNNING one (R35, R44, R47). -/
abbrev State.servedLaw (s : State) : Prop :=
  (s.converter = none → s.selectionWaits = false → s.chosenClass = none) ∧ s.urgentWaits = false ∧
  ∀ j ∈ s.jobs, j.state = .running → ∀ k ∈ s.jobs, k.state = .suspended → j.cls.rank < k.cls.rank

/-- The laws of the Job Table, the scheduler and the converter together. -/
abbrev State.schedulerLaws (s : State) : Prop :=
  s.tagLaw ∧ s.jobLaw ∧ s.readyLaw ∧ s.markerLaw ∧ s.converterLaw ∧ s.completionLaw ∧ s.accountLaw

/-- The laws of holdings together: who owns what, and what a host without a session holds. -/
abbrev State.holdingLaws (s : State) : Prop := s.ownerLaw ∧ s.departedLaw

/-- A port in IDLE keeps nothing of a frame but the last outcome (R159). -/
abbrev State.portLaw (s : State) : Prop :=
  ∀ h ∈ allHosts, (s.port h).phase = .idle → s.port h = { lastOutcome := (s.port h).lastOutcome }

/-! ### The frame of a command row -/

/-- The frame that a command row stands for: its host, its command and its parameter bytes. -/
def frameOf : Instr → Option (HostId × Command × List Byte)
  | .attach h params => some (h, .attach, params)
  | .detach h params => some (h, .detach, params)
  | .setHostOptions h params => some (h, .setHostOptions, params)
  | .readStatus h => some (h, .readStatus, [])
  | .submitJob h params => some (h, .submitJob, params)
  | .withdrawJob h params => some (h, .withdrawJob, params)
  | .readJob h tag => some (h, .readJob, [tag])
  | .drainResults h maximum => some (h, .drainResults, [maximum])
  | .readNotices h maximum => some (h, .readNotices, [maximum])
  | .claimChannel h params => some (h, .claimChannel, params)
  | .releaseChannel h params => some (h, .releaseChannel, params)
  | .configureChannel h params => some (h, .configureChannel, params)
  | .readChannel h channel => some (h, .readChannel, [channel])
  | .claimTrigger h params => some (h, .claimTrigger, params)
  | .releaseTrigger h params => some (h, .releaseTrigger, params)
  | .programTrigger h params => some (h, .programTrigger, params)
  | .startTrigger h params => some (h, .startTrigger, params)
  | .stopTrigger h params => some (h, .stopTrigger, params)
  | .readTrigger h generator => some (h, .readTrigger, [generator])
  | .setWatch h params => some (h, .setWatch, params)
  | .clearWatch h params => some (h, .clearWatch, params)
  | .readWatch h watch => some (h, .readWatch, [watch])
  | .frameBegin _ => none
  | .frameEnd _ => none
  | .i2cByteRefused _ => none
  | .readPhaseBegin => none
  | .recordTransferred _ _ => none
  | .noticeTransferred _ _ => none
  | .discardCountTransferred _ _ => none
  | .timebaseTick => none
  | .triggerDelayExpiry _ => none
  | .triggerPeriodExpiry _ => none
  | .leaseTimerExpiry _ => none
  | .staleIntervalReached _ => none
  | .trigEdge _ _ _ => none
  | .samplingPhaseEnd _ => none
  | .conversionComplete _ => none
  | .deviceReset _ => none
  | .byteTaken _ _ => none
  | .replyByteTransferred _ _ => none

/-- The parameter check of a command: each field lies in its defined set (chapter 10). -/
def paramsValid (h : HostId) (params : List Byte) : Command → Bool
  | .attach => (attachOptions params).isSome
  | .setHostOptions => (HostOptions.parse params).isSome
  | .submitJob => (parseJob h params).isSome
  | .withdrawJob => (tagParam params).isSome
  | .readJob => (tagParam params).isSome
  | .drainResults => (countField 64 (field params 0 1)).isSome
  | .readNotices => (countField 16 (field params 0 1)).isSome
  | .claimChannel => (channelParam params).isSome
  | .releaseChannel => (channelParam params).isSome
  | .readChannel => (channelParam params).isSome
  | .configureChannel => (configureParams params).isSome
  | .claimTrigger => (generatorParam params).isSome
  | .releaseTrigger => (generatorParam params).isSome
  | .startTrigger => (generatorParam params).isSome
  | .stopTrigger => (generatorParam params).isSome
  | .readTrigger => (generatorParam params).isSome
  | .programTrigger => (programParams params).isSome
  | .setWatch => (watchParams h params).isSome
  | .clearWatch => (watchParam params).isSome
  | .readWatch => (watchParam params).isSome
  | .detach => true
  | .readStatus => true

/-- The events of a frame on a port, byte by byte: its beginning, the command byte, the parameter
bytes, and for a write-type command its end (sections 9.2, 9.4). -/
def frameEvents (s : State) (h : HostId) (c : Command) (params : List Byte) : List Instr :=
  let start : FrameStart :=
    if h = 0 then .csFall 0 else if h = 1 then .csFall 1 else .start s.i2cAddress false
  let ending : FrameStop :=
    if h = 0 then .csRise 0 false else if h = 1 then .csRise 1 false else .stop
  Instr.frameBegin start :: Instr.byteTaken h c.code :: params.map (Instr.byteTaken h)
    ++ (if c.isRead then [] else [Instr.frameEnd ending])

/-- A list of rows executed in order; what stops one stops the rest. -/
def execAll : List Instr → State → Host.Outcome State Fault Refusal
  | [], s => .next s
  | i :: rest, s =>
    match exec i s with
    | .next t => execAll rest t
    | .fault f => .fault f
    | .refused r => .refused r

/-! ### What the end of a frame and the judgement of a read leave -/

/-- The ticks of a lease length; absent for 0 (R147). -/
def leaseOf (units : Nat) : Option Nat := if units = 0 then none else some (units * 1024)

/-- `t` is `u` after a frame has ended on port `h` with the outcome `o`: the port is IDLE and keeps
the outcome alone, the lease timer of an ATTACHED host has restarted unless the outcome is FRAME_ERROR
or UNKNOWN_COMMAND, and nothing else differs (R147, R159). -/
structure State.EndsFrame (u t : State) (h : HostId) (o : CmdOutcome) : Prop where
  port : t.port h = { lastOutcome := o }
  otherPorts : ∀ g, g ≠ h → t.port g = u.port g
  session : t.session h =
    if o ≠ .frameError ∧ o ≠ .unknownCommand ∧ (u.session h).state = .attached then
      { u.session h with lease := leaseOf (u.session h).options.leaseLength }
    else u.session h
  otherSessions : ∀ g, g ≠ h → t.session g = u.session g
  rest : t = { u with ports := t.ports, sessions := t.sessions }

/-- The port record that the judgement of a read-type command leaves (R164): the outcome is recorded and
the reply fixed with none of its bytes transferred. On an SPI port the clocks of the judged byte have
carried the status byte with the command byte of Read Status, and 0x00 with a parameter byte; on the I2C
port the status byte is still to come (R162, R172; log entry 12). The pending outcome and the read phase
stay. -/
def Port.judged (p : Port) (h : HostId) (c : Command) (params : List Byte) (capture : Byte)
    (o : CmdOutcome) (body : ReplyBody) : Port :=
  { p with
    phase := .reply, statusCapture := some capture, command := some c.code, params := params,
    required := some params.length, reply := some { body := body, transferred := 0 }, lastOutcome := o,
    statusSent := decide (h ≠ 2),
    lastSent := if h = 2 then p.lastSent else some (if params = [] then capture else 0x00) }

/-- `t` is `s` after a read-type command has been judged on port `h`: the port holds the judgement, the
status byte being the one captured with the frame, and nothing but the port differs (R160, R164). -/
structure State.FixesReply (s t : State) (h : HostId) (c : Command) (params : List Byte) (o : CmdOutcome)
    (body : ReplyBody) : Prop where
  port : t.port h =
    (s.port h).judged h c params ((s.port h).statusCapture.getD (s.statusByte h)) o body
  otherPorts : ∀ g, g ≠ h → t.port g = s.port g
  rest : t = { s with ports := t.ports }

/-- The state with every holding of host `h` given up and its session ended in `ended`: the shares 1
to 7 of a teardown (R151). -/
def State.withoutHost (s : State) (h : HostId) (ended : SessionState) : State :=
  { s with
    sessions := s.sessions.put h ⟨ended, (s.session h).options, none⟩
    jobs := s.jobs.filter fun j => j.id.owner != h
    ready := s.ready.map (List.filter fun id => id.owner != h)
    marker := s.marker.map (Option.filter fun id => id.owner != h)
    converter := s.converter.filter fun ctx => ctx.job.owner != h
    channels := s.channels.map fun c => if c.owner = some h then { c with owner := none } else c
    generators := s.generators.map fun g =>
      if g.owner = some h then { g with owner := none, state := .stopped, remaining := none } else g
    watches := s.watches.map fun w =>
      if w.owner = some h then { w with owner := none, state := .unknown } else w
    results := s.results.put h { discarded := (s.resultQueue h).discarded }
    notices := s.notices.put h {} }

/-- `u` is `s` after HOST_LEFT about `h` has been posted to each other ATTACHED host (R153). -/
structure State.PostsHostLeft (s u : State) (h : HostId) (detail : BitVec 16) : Prop where
  told : ∀ g, g ≠ h → u.noticeQueue g =
    if (s.session g).state = .attached then
      (s.noticeQueue g).take ⟨.hostLeft, byteOf h.val, detail, s.timebase⟩
    else s.noticeQueue g
  own : u.noticeQueue h = s.noticeQueue h
  rest : u = { s with notices := u.notices }

end Sys2Proof.Machine
end

