-- ==== Sys2Proof/Certificates/Slice0/Obligations.lean ====
section
/-! DEFINITION. The statements for the provers. A statement says of the model what its docstring's rule of
spec/ says of the part; where it rests on a choice of the model's, it names the log entry. -/

open Sys2Proof Sys2Proof.Machine

/-! ### The machine as a whole -/

/-- One step executes the command at the front of the queue with the queue's rest. The queue is the
model's (log entry 4). -/
def Obligations.StepTakesTheFrontCommand : Prop :=
  ∀ (c : Instr) (rest : List Instr) (s : State),
    s.pending = c :: rest → step s = exec c { s with pending := rest }

/-- Every row answers a next state, and no row touches the queue of what waits (log entries 4, 17). -/
def Obligations.EveryRowCompletesAndKeepsTheQueue : Prop :=
  ∀ (i : Instr) (s : State), ∃ t, exec i s = .next t ∧ t.pending = s.pending

/-- But for a device reset, the timebase moves at a tick alone, by one modulo 2^32; the straps never
change; and the latest value and the sequence number of a channel change at a completion alone (R60,
R67, R90, R167). -/
def Obligations.OnlyTheirEventsMoveTimebaseAndLatestValues : Prop :=
  ∀ (i : Instr) (s t : State), exec i s = .next t → (∀ straps, i ≠ .deviceReset straps) →
    t.tbsel = s.tbsel ∧ t.adr = s.adr ∧
    t.timebase = (if i = .timebaseTick then s.timebase + 1 else s.timebase) ∧
    ((∀ shares, i ≠ .conversionComplete shares) → ∀ c : ChannelId,
      (t.channel c).valid = (s.channel c).valid ∧ (t.channel c).code = (s.channel c).code ∧
      (t.channel c).timestamp = (s.channel c).timestamp ∧
      (t.channel c).producer = (s.channel c).producer ∧ (t.channel c).tag = (s.channel c).tag ∧
      (t.channel c).sequence = (s.channel c).sequence)

/-- Isolation of the hosts: a command of host `g` leaves every other host's session, port, records,
discarded-records count, channels, generators and watches as they were, and its jobs in the table (R2,
R62, R63, R64, R72, R94, R95, R114, R115, R152, R157). Where a completion of `g`'s is open and not yet
evaluated, a Detach is what the evaluation precedes (R125, R154; log entry 6): a watch then keeps all
but its state. -/
def Obligations.ACommandLeavesOtherHostsHoldings : Prop :=
  ∀ (i : Instr) (g h : HostId) (c : Command) (params : List Byte) (s t : State),
    frameOf i = some (g, c, params) → h ≠ g → exec i s = .next t →
    t.session h = s.session h ∧ t.port h = s.port h ∧
    (t.resultQueue h).records = (s.resultQueue h).records ∧
    (t.resultQueue h).discarded = (s.resultQueue h).discarded ∧
    (∀ x : ChannelId, (s.channel x).owner = some h → t.channel x = s.channel x) ∧
    (∀ x : GeneratorId, (s.generator x).owner = some h → t.generator x = s.generator x) ∧
    (∀ x : WatchId, (s.watch x).owner = some h →
      t.watch x = { s.watch x with state := (t.watch x).state } ∧
      (c ≠ .detach ∨ (∀ d ∈ s.completion, d.report.job.owner = g → .watch ∉ d.left) →
        t.watch x = s.watch x)) ∧
    (t.jobs.filter fun j => j.id.owner == h).map Job.id =
      (s.jobs.filter fun j => j.id.owner == h).map Job.id

/-! ### Laws that every step keeps, and that reset meets -/

/-- The laws that every step is stated to keep hold after reset (R1, R15, R28, R30, R72, R128, R140,
R157). -/
def Obligations.ResetMeetsEveryLaw : Prop :=
  State.reset.slotLaw ∧ State.reset.resultLaw ∧ State.reset.noticeLaw ∧ State.reset.holdingLaws ∧
  State.reset.schedulerLaws ∧ State.reset.servedLaw ∧ State.reset.generatorLaw ∧ State.reset.watchLaw ∧
  State.reset.portLaw ∧ State.reset.pending = []

/-- At most 24 slots are occupied, and the free slots never number fewer than the sum of the unused
guarantees (R1, R15). -/
def Obligations.EveryStepKeepsTheSlotLaw : Prop :=
  ∀ s t : State, s.slotLaw → step s = .next t → t.slotLaw

/-- Records and reserved places of a host never exceed 64; notices never exceed 16, nor the lost count
255 (R72, R128). -/
def Obligations.EveryStepKeepsTheQueueCapacities : Prop :=
  ∀ s t : State, s.resultLaw ∧ s.noticeLaw → step s = .next t → t.resultLaw ∧ t.noticeLaw

/-- Only ATTACHED hosts own jobs, channels, generators and watches, and a host that is not ATTACHED
holds no record, reserved place, notice or lease timer (R60, R89, R92, R112, R138, R140). -/
def Obligations.EveryStepKeepsTheHoldings : Prop :=
  ∀ s t : State, s.holdingLaws → step s = .next t → t.holdingLaws

/-- The Job Table, the Ready Lists, the pass markers, the converter and the reservation accounts stay
consistent: distinct tags, cursors within the entries, READY jobs exactly in their Ready Lists, one pass
per class, one RUNNING job for the conversion in flight or the completion not yet taken, an open
completion in its order, and each account equal to the entries less the records placed (R14, R28, R30,
R36, R52, R57, R73). The open completion is log entry 6. -/
def Obligations.EveryStepKeepsTheScheduler : Prop :=
  ∀ s t : State, s.schedulerLaws → step s = .next t → t.schedulerLaws

/-- Nothing that could be served is left waiting: after every step an idle converter leaves no class
that qualifies, but between a completion's report and the Job Table's share; no eligible URGENT job
waits behind a lower class's conversion, and every SUSPENDED job is of a lower class than the RUNNING
one (R35, R44, R47, R57). The completion that is still open is log entry 6. -/
def Obligations.EveryStepLeavesNothingServableWaiting : Prop :=
  ∀ s t : State, s.schedulerLaws ∧ s.holdingLaws ∧ s.servedLaw → step s = .next t → t.servedLaw

/-- A generator without an owner is STOPPED, ticks remaining is present exactly in DELAYING and RUNNING,
the accumulator stays below 16; a free watch is UNKNOWN and no window is inverted; and a port in IDLE
keeps nothing of a frame but its last outcome (R92, R96, R100, R112, R113, R159). -/
def Obligations.EveryStepKeepsGeneratorsWatchesAndPorts : Prop :=
  ∀ s t : State, s.generatorLaw ∧ s.watchLaw ∧ s.portLaw → step s = .next t →
    t.generatorLaw ∧ t.watchLaw ∧ t.portLaw

/-- A frame sent byte by byte on any of the three ports has the effect of its command row: the bytes
taken, refused or counted on the way lead to the one judgement that the row makes, early refusal and
length checks included (R158, R159, R163, R164, R169, R170, R171). What a command row stands for is log
entry 2; the MISO byte of the same clocks on an SPI port, log entry 12; the refused command byte, log
entry 20. -/
def Obligations.AFrameOfBytesIsItsCommandRow : Prop :=
  ∀ (i : Instr) (h : HostId) (c : Command) (params : List Byte) (s : State),
    frameOf i = some (h, c, params) →
    s.port h = { lastOutcome := (s.port h).lastOutcome } →
    execAll (frameEvents s h c params) s = exec i s

/-! ### Sessions -/

/-- A host that is not ATTACHED is refused every command but Attach and Read Status, with NOT_ATTACHED
or LAPSED behind the length check: a write-type command changes nothing, a read-type command replies
with its outcome byte alone (R141). A command row stands for its whole frame (log entry 2). The byte in
the clocks of an SPI judgement is log entry 12, and the port fields for it log entry 11. -/
def Obligations.CommandsWithoutASessionAreRefused : Prop :=
  ∀ (i : Instr) (h : HostId) (c : Command) (params : List Byte) (s : State),
    frameOf i = some (h, c, params) → (s.port h).awaits c = true →
    c ≠ .attach → c ≠ .readStatus → (s.session h).state ≠ .attached →
    let o : CmdOutcome := if (s.session h).state = .lapsed then .lapsed else .notAttached
    ∃ t, exec i s = .next t ∧
      if c.isRead then s.FixesReply t h c params o (.fixed [o.code])
      else if lengthOk c params then s.EndsFrame t h o
      else s.EndsFrame t h .frameError

/-- An ATTACHED host's command of a wrong length is refused with FRAME_ERROR, and one with a parameter
outside its defined set with BAD_PARAM, and nothing changes (R12, R24, R26, R61, R93, R113, R146). The
early refusal of Submit Job on the I2C port stands before both (R17). A command row stands for its whole
frame (log entry 2). The byte in the clocks of an SPI judgement is log entry 12, and the port fields for
it log entry 11. -/
def Obligations.MalformedCommandsAreRefused : Prop :=
  ∀ (i : Instr) (h : HostId) (c : Command) (params : List Byte) (s : State),
    frameOf i = some (h, c, params) → (s.port h).awaits c = true →
    c ≠ .attach → (s.session h).state = .attached →
    (c = .submitJob → h = 2 → (s.port 2).phase = .parameters ∨ s.slotRuleAdmits 2 = true) →
    lengthOk c params = false ∨ paramsValid h params c = false →
    ∃ t, exec i s = .next t ∧
      if c.isRead then s.FixesReply t h c params .badParam (.fixed [3])
      else if lengthOk c params then s.EndsFrame t h .badParam
      else s.EndsFrame t h .frameError

/-- Attach: its checks in their order, and what an accepted Attach does (R143, R144). A command row
stands for its whole frame (log entry 2). -/
def Obligations.AttachIsJudgedInOrder : Prop :=
  ∀ (h : HostId) (params : List Byte) (s : State), (s.port h).awaits .attach = true →
    ∃ t, exec (.attach h params) s = .next t ∧
      if params.length ≠ 0 ∧ params.length ≠ 8 then s.EndsFrame t h .frameError
      else if (s.session h).state = .attached then s.EndsFrame t h .wrongState
      else
        match (if params = [] then some {} else HostOptions.parse params) with
        | none => s.EndsFrame t h .badParam
        | some o =>
          State.EndsFrame
            { s with
              sessions := s.sessions.put h ⟨.attached, o, leaseOf o.leaseLength⟩
              results := s.results.put h { s.resultQueue h with discarded := 0 } }
            t h .ok

/-- Detach: the host gives up everything it held, HOST_LEFT with detail 1 goes to each other ATTACHED
host, a selection follows, and OK is recorded (R145, R151, R153). A completion of one of its jobs that
has been reported before is evaluated, placed and recorded first, so that no share of it keeps the
teardown's selection waiting (R35, R51, R59, R125, R154; log entry 6). A command row stands for its
whole frame (log entry 2). -/
def Obligations.DetachTearsTheHostDown : Prop :=
  ∀ (h : HostId) (s : State), (s.port h).awaits .detach = true → (s.session h).state = .attached →
    let v := s.settle [.watch, .job] fun id => id.owner == h
    ((∀ c ∈ s.completion, c.report.job.owner ≠ h) → v = s) ∧
    (s.completionLaw → ∀ c ∈ v.completion, .job ∈ c.left → c.report.job.owner ≠ h) ∧
    ∃ u t, exec (.detach h []) s = .next t ∧ (v.withoutHost h .detached).PostsHostLeft u h 1 ∧
      u.select.EndsFrame t h .ok

/-- The expiry of a lease timer: the same teardown with the session LAPSED and detail 2, and no outcome
recorded (R51, R149, R151, R153), behind a completion of the host's that has been reported before (R59,
R125, R154; log entry 6). A timer that is not due does not expire (log entry 3), and its count stands at
0 until the expiry is taken (log entry 5). -/
def Obligations.LeaseExpiryTearsTheHostDown : Prop :=
  ∀ (h : HostId) (s : State),
    let v := s.settle [.watch, .job] fun id => id.owner == h
    ((∀ c ∈ s.completion, c.report.job.owner ≠ h) → v = s) ∧
    (s.completionLaw → ∀ c ∈ v.completion, .job ∈ c.left → c.report.job.owner ≠ h) ∧
    if (s.session h).state = .attached ∧ (s.session h).lease = some 0 then
      ∃ u, (v.withoutHost h .lapsed).PostsHostLeft u h 2 ∧
        exec (.leaseTimerExpiry h) s = .next u.select
    else exec (.leaseTimerExpiry h) s = .next s

/-- Set Host Options: all five options replaced, the lease timer restarted with the new length, the
stale mark recomputed from the head's age, and a scheduling occasion when the full policy changes from
WAIT to DISCARD (R83, R146, R147; that a repeated stale interval recomputes the mark too is log entry
9). A command row stands for its whole frame (log entry 2). One scheduling occasion closes the event
(log entry 8). -/
def Obligations.SetHostOptionsReplacesAllFive : Prop :=
  ∀ (h : HostId) (params : List Byte) (o : HostOptions) (s : State),
    (s.port h).awaits .setHostOptions = true → (s.session h).state = .attached →
    params.length = 8 → HostOptions.parse params = some o →
    let stale : Bool :=
      match (s.resultQueue h).records with
      | [] => false
      | r :: _ => decide (o.staleInterval ≠ 0 ∧ o.staleInterval ≤ (s.timebase - r.timestamp).toNat)
    let u : State :=
      { s with
        sessions := s.sessions.put h ⟨.attached, o, leaseOf o.leaseLength⟩
        results := s.results.put h { s.resultQueue h with staleMark := stale } }
    let freed := (s.session h).options.fullPolicy = .wait ∧ o.fullPolicy = .discard
    ∃ t, exec (.setHostOptions h params) s = .next t ∧
      (freed → u.schedule.EndsFrame t h .ok) ∧ (¬ freed → u.EndsFrame t h .ok)

/-- Read Status is judged OK in every session state and reports the fields of its table, the last
outcome before this frame among them, 29 bytes in all (R155, R181). A command row stands for its whole
frame (log entry 2). The byte in the clocks of an SPI judgement is log entry 12, and the port fields for
it log entry 11. -/
def Obligations.ReadStatusReportsTheHost : Prop :=
  ∀ (h : HostId) (s : State), (s.port h).awaits .readStatus = true →
    let q := s.resultQueue h
    let o := (s.session h).options
    let bytes : List Byte :=
      [0, (s.session h).state.code, (s.port h).lastOutcome.code] ++ beBytes 4 s.timebase.toNat
        ++ [byteOf q.records.length,
            byteOf (q.accounts.urgent.getD 0 + q.accounts.normal.getD 0 + q.accounts.background.getD 0),
            byteOf (s.noticeQueue h).notices.length, byteOf (s.noticeQueue h).lost]
        ++ beBytes 2 q.discarded
        ++ [byteOf (s.jobs.countP fun j => j.id.owner == h), byteOf (24 - s.jobs.length)]
        ++ [byteOf o.watermark] ++ beBytes 3 o.staleInterval
        ++ [if o.fullPolicy = .discard then 1 else 0, if o.noticeInterrupt then 1 else 0]
        ++ beBytes 2 o.leaseLength ++ beBytes 4 ((s.session h).lease.getD 0) ++ [0x3A, 1]
    bytes.length = 29 ∧
      ∃ t, exec (.readStatus h) s = .next t ∧
        s.FixesReply t h .readStatus [] .ok (.status bytes q.discarded)

/-- The bytes of the host options block, Configure Channel, Program Trigger and Set Watch are read at
their offsets, most significant byte first, and checked against their ranges (R64, R96, R113, R143,
R176, section 10.3). -/
def Obligations.SettingsAreReadAsLaidOut : Prop :=
  (∀ w i2 i1 i0 p n l1 l0 : Byte,
    HostOptions.parse [w, i2, i1, i0, p, n, l1, l0] =
      if 1 ≤ w.toNat ∧ w.toNat ≤ 64 ∧ p.toNat ≤ 1 ∧ n.toNat ≤ 1 ∧ 256 * l1.toNat + l0.toNat ≤ 16384 then
        some { watermark := w.toNat,
               staleInterval := 65536 * i2.toNat + 256 * i1.toNat + i0.toNat,
               fullPolicy := if p = 0 then .wait else .discard,
               noticeInterrupt := decide (n = 1),
               leaseLength := 256 * l1.toNat + l0.toNat }
      else none) ∧
  (∀ c g r : Byte,
    configureParams [c, g, r] =
      if h : c.toNat < 16 then
        if g.toNat < 4 ∧ r.toNat ≤ 1 then
          some (⟨c.toNat, h⟩, BitVec.ofNat 2 g.toNat, if r = 0 then .normal else .fast)
        else none
      else none) ∧
  (∀ g m d2 d1 d0 p2 p1 p0 f b st pin e : Byte,
    programParams [g, m, d2, d1, d0, p2, p1, p0, f, b, st, pin, e] =
      if h : g.toNat < 4 then
        let start : Option TriggerStart :=
          if st = 0 then some .command
          else if st = 1 ∧ e.toNat ≤ 1 then
            if hp : pin.toNat < 2 then some (.external ⟨pin.toNat, hp⟩ (decide (e = 0))) else none
          else none
        match start with
        | none => none
        | some x =>
          if m.toNat ≤ 2 ∧ (m ≠ 0 → (p2 ++ p1 ++ p0 : BitVec 24) ≠ 0 ∧ f.toNat ≤ 15) ∧ (m = 2 → b ≠ 0) then
            some (⟨g.toNat, h⟩,
              { mode := if m = 0 then .once else if m = 1 then .periodic else .burst,
                delay := d2 ++ d1 ++ d0, period := p2 ++ p1 ++ p0, fraction := f, burst := b,
                start := x })
          else none
      else none) ∧
  (∀ (owner : HostId) (w c l1 l0 h1 h0 z y n : Byte),
    watchParams owner [w, c, l1, l0, h1, h0, z, y, n] =
      if hw : w.toNat < 8 then
        if hc : c.toNat < 16 then
          if 256 * l1.toNat + l0.toNat ≤ 256 * h1.toNat + h0.toNat ∧ 256 * h1.toNat + h0.toNat ≤ 4095 ∧
              z.toNat ≤ 1 ∧ n.toNat ≤ 1 then
            some (⟨w.toNat, hw⟩,
              { owner := some owner, channel := ⟨c.toNat, hc⟩,
                low := BitVec.ofNat 12 (256 * l1.toNat + l0.toNat),
                high := BitVec.ofNat 12 (256 * h1.toNat + h0.toNat),
                zone := if z = 0 then .inside else .outside, hysteresis := y,
                clearNotices := decide (n = 1), state := .unknown })
          else none
        else none
      else none)

/-! ### Jobs -/

/-- A Submit Job is read as section 10.3 lays it out, its entries of three bytes behind a header of
eleven, in their order: the job at admission, or none where check 3 refuses the fields, an entry count
of 0 or above 16 among them (R13, R16, R179). -/
def Obligations.ASubmitJobIsReadAsLaidOut : Prop :=
  ∀ (owner : HostId) (tag kind cls dest src edge pol l1 l0 flags count : Byte)
      (es : List (Byte × Byte × Byte)),
    count.toNat = es.length →
    parseJob owner ([tag, kind, cls, dest, src, edge, pol, l1, l0, flags, count]
        ++ (es.map fun e => [e.1, e.2.1, e.2.2]).flatten) =
      let source : Option Source :=
        if src = 0x00 then some .now
        else if hg : 0x10 ≤ src.toNat ∧ src.toNat ≤ 0x13 then
          some (.generator ⟨src.toNat - 0x10, by omega⟩)
        else if hp : 0x20 ≤ src.toNat ∧ src.toNat ≤ 0x21 then
          if edge.toNat ≤ 2 then
            some (.pin ⟨src.toNat - 0x20, by omega⟩
              (if edge = 0 then .rise else if edge = 1 then .fall else .either))
          else none
        else if hw : 0x30 ≤ src.toNat ∧ src.toNat ≤ 0x37 then
          some (.watch ⟨src.toNat - 0x30, by omega⟩)
        else none
      match source with
      | none => none
      | some x =>
        if tag ≠ 0 ∧ kind.toNat ≤ 1 ∧ cls.toNat ≤ 2 ∧ dest.toNat ≤ 1 ∧ pol.toNat ≤ 2 ∧
            flags.toNat ≤ 1 ∧ (kind = 1 → dest = 0) ∧ 1 ≤ es.length ∧ es.length ≤ 16 ∧
            es.all (fun e =>
              decide (e.1.toNat ≤ 15 ∧ (kind = 1 → 256 * e.2.1.toNat + e.2.2.toNat ≤ 4095))) = true then
          some { id := ⟨owner, tag⟩,
                 kind := if kind = 0 then .convert else .compare,
                 cls := if cls = 0 then .urgent else if cls = 1 then .normal else .background,
                 dest := if dest = 0 then .queue else .table,
                 source := x,
                 policy := if pol = 0 then .ignore else if pol = 1 then .hold else .restart,
                 passLimit := 256 * l1.toNat + l0.toNat,
                 notifyPass := decide (flags = 1),
                 entries := es.map fun e =>
                   ⟨Fin.ofNat 16 e.1.toNat,
                    if kind = 0 then 0 else BitVec.ofNat 12 (256 * e.2.1.toNat + e.2.2.toNat)⟩,
                 state := if x = .now then .ready else .armed,
                 cursor := 0, redo := false, restarted := false, overrunReported := false,
                 passesDone := 0, pendingTrigger := false, overruns := 0, produced := 0,
                 discarded := 0 }
        else none

/-- A well-formed Submit Job of an ATTACHED host: the early refusal of the I2C port, then the tag, then
the slot rule; an admitted job takes a slot behind the others, and with source NOW it joins the tail of
its Ready List and calls for a selection (R12, R14, R15, R16, R17). A command row stands for its whole
frame (log entry 2). One scheduling occasion closes the event (log entry 8). -/
def Obligations.SubmitJobAdmitsOrRefuses : Prop :=
  ∀ (h : HostId) (params : List Byte) (j : Job) (s : State),
    (s.port h).awaits .submitJob = true → (s.session h).state = .attached →
    lengthOk .submitJob params = true → parseJob h params = some j →
    let u : State := { s with jobs := s.jobs ++ [j] }
    ∃ t, exec (.submitJob h params) s = .next t ∧
      if h = 2 ∧ (s.port h).phase ≠ .parameters ∧ s.slotRuleAdmits h = false then s.EndsFrame t h .noSlot
      else if j.id ∈ s.jobs.map Job.id then s.EndsFrame t h .tagInUse
      else if s.slotRuleAdmits h = false then s.EndsFrame t h .noSlot
      else if j.source = .now then
        State.EndsFrame
          ({ u with ready := s.ready.put j.cls (s.ready.get j.cls ++ [j.id]) } : State).schedule t h .ok
      else u.EndsFrame t h .ok

/-- The slot rule and the law it upholds: a host with fewer than four slots is admitted whenever a slot
is free, any other only while the free slots then still cover the unused guarantees of the other two; a
frame that it refuses is answered NO_SLOT; an admission keeps the law, under which a host below four
slots always finds one free, and none holds more than 16 (R15). That the refused row ends its frame is
the model's reading of a command row: a command row stands for its whole frame (log entry 2). -/
def Obligations.TheSlotRuleUpholdsItsLaw : Prop :=
  ∀ (s : State) (a b c : HostId), a ≠ b → b ≠ c → a ≠ c →
    (s.slotRuleAdmits a = true ↔
      if s.slotsHeld a < 4 then s.jobs.length < 24
      else (4 - s.slotsHeld b) + (4 - s.slotsHeld c) + 1 ≤ 24 - s.jobs.length) ∧
    (s.slotLaw ↔ s.jobs.length ≤ 24 ∧
      (4 - s.slotsHeld a) + (4 - s.slotsHeld b) + (4 - s.slotsHeld c) ≤ 24 - s.jobs.length) ∧
    (∀ (params : List Byte) (j : Job), (s.port a).awaits .submitJob = true →
      (s.session a).state = .attached → lengthOk .submitJob params = true →
      parseJob a params = some j → j.id ∉ s.jobs.map Job.id → s.slotRuleAdmits a = false →
      ∃ t, exec (.submitJob a params) s = .next t ∧ s.EndsFrame t a .noSlot) ∧
    (s.slotLaw →
      (s.slotsHeld a < 4 → s.slotRuleAdmits a = true) ∧ s.slotsHeld a ≤ 16 ∧
      (s.slotsHeld a = 16 → s.slotsHeld b ≤ 4 ∧ s.slotsHeld c ≤ 4) ∧
      ∀ j : Job, j.id.owner = a → s.slotRuleAdmits a = true →
        ({ s with jobs := s.jobs ++ [j] } : State).slotLaw)

/-- Withdraw Job: the job leaves the table and its Ready List, its conversion in flight is aborted, its
pass marker cleared and its account closed; a withdrawal of a pass in progress is a scheduling occasion
(R24, R50, R79). A completion of the job that has been reported before runs in full at the Job Table and
the scheduler first, so that the withdrawal finds the job in its new state or not at all (R25, R59; log
entry 6). A command row stands for its whole frame (log entry 2). One scheduling occasion closes the
event (log entry 8). -/
def Obligations.WithdrawJobRemovesTheJob : Prop :=
  ∀ (h : HostId) (tag : Byte) (s : State),
    (s.port h).awaits .withdrawJob = true → (s.session h).state = .attached → tag ≠ 0 →
    let v := s.settle [.job] fun id => id == ⟨h, tag⟩
    ((∀ c ∈ s.completion, c.report.job ≠ ⟨h, tag⟩) → v = s) ∧
    (s.completionLaw → ∀ c ∈ v.completion, .job ∈ c.left → c.report.job ≠ ⟨h, tag⟩) ∧
    ∃ t, exec (.withdrawJob h [tag]) s = .next t ∧
      match v.jobs.find? fun j => j.id == ⟨h, tag⟩ with
      | none => v.EndsFrame t h .noSuchJob
      | some j =>
        let pass := j.state = .running ∨ j.state = .suspended
        let q := v.resultQueue h
        let u : State :=
          { v with
            jobs := v.jobs.filter fun k => k.id != ⟨h, tag⟩
            ready := v.ready.put j.cls ((v.ready.get j.cls).erase ⟨h, tag⟩)
            converter := v.converter.filter fun ctx => ctx.job != ⟨h, tag⟩ }
        let w : State :=
          { u with
            marker := u.marker.put j.cls none
            results := u.results.put h { q with accounts := q.accounts.put j.cls none } }
        (pass → w.schedule.EndsFrame t h .ok) ∧ (¬ pass → u.EndsFrame t h .ok)

/-- Read Job replies with the job's record as it stands, sixteen entry places in 69 bytes, or with
NO_SUCH_JOB (R26, R181). A command row stands for its whole frame (log entry 2). The byte in the clocks
of an SPI judgement is log entry 12, and the port fields for it log entry 11. -/
def Obligations.ReadJobReportsTheRecord : Prop :=
  ∀ (h : HostId) (tag : Byte) (s : State),
    (s.port h).awaits .readJob = true → (s.session h).state = .attached → tag ≠ 0 →
    ∃ t, exec (.readJob h tag) s = .next t ∧
      match s.jobs.find? fun j => j.id == ⟨h, tag⟩ with
      | none => s.FixesReply t h .readJob [tag] .noSuchJob (.fixed [8])
      | some j =>
        let place (i : Nat) : List Byte :=
          match j.entries[i]? with
          | some e => [byteOf e.channel.val] ++ beBytes 2 e.threshold.toNat
          | none => [0, 0, 0]
        let bytes : List Byte :=
          [0, j.kind.code, j.cls.code, j.dest.code, j.source.byte, j.source.edgeByte, j.policy.code]
            ++ beBytes 2 j.passLimit ++ [if j.notifyPass then 1 else 0, j.state.code, byteOf j.cursor,
              (if j.redo then 1 else 0) + (if j.restarted then 2 else 0)
                + (if j.overrunReported then 4 else 0)]
            ++ beBytes 2 j.passesDone ++ [if j.pendingTrigger then 1 else 0] ++ beBytes 2 j.overruns
            ++ [byteOf j.produced, byteOf j.discarded, byteOf j.entries.length]
            ++ ((List.range 16).map place).flatten
        bytes.length = 69 ∧ s.FixesReply t h .readJob [tag] .ok (.fixed bytes)

/-! ### Drains and transfers -/

/-- Drain Results and Read Notices fix their count at judgement, the smaller of the maximum and the
members held, and remove nothing yet (R85, R133). A command row stands for its whole frame (log entry
2). The byte in the clocks of an SPI judgement is log entry 12, and the port fields for it log entry
11. -/
def Obligations.DrainCountsAreFixedAtJudgement : Prop :=
  ∀ (h : HostId) (maximum : Byte) (s : State), (s.session h).state = .attached →
    ((s.port h).awaits .drainResults = true → 1 ≤ maximum.toNat → maximum.toNat ≤ 64 →
      ∃ t, exec (.drainResults h maximum) s = .next t ∧
        s.FixesReply t h .drainResults [maximum] .ok
          (.drain (min maximum.toNat (s.resultQueue h).records.length))) ∧
    ((s.port h).awaits .readNotices = true → 1 ≤ maximum.toNat → maximum.toNat ≤ 16 →
      ∃ t, exec (.readNotices h maximum) s = .next t ∧
        s.FixesReply t h .readNotices [maximum] .ok
          (.notices (min maximum.toNat (s.noticeQueue h).notices.length)))

/-- A record leaves the head of the queue when its last byte has been transferred: the stale mark is
tested on the new head and the rise in free places is a scheduling occasion. A queue that a teardown has
emptied loses nothing, and its bytes go out as 0x00 (R83, R86, R88, R166); that the session tells the
teardown is log entry 28. The port keeps the reply, the byte sent and the read phase, whose last two
fields are the model's (log entry 11). That the row advances over the item's earlier bytes is the
model's choice (log entry 13). One scheduling occasion closes the event (log entry 8). -/
def Obligations.ARecordLeavesWhenItsLastByteIsTransferred : Prop :=
  ∀ (h : HostId) (ack : Bool) (r : Reply) (n : Nat) (s : State),
    (s.port h).reply = some r → r.body = .drain n → 1 ≤ n → r.transferred < 2 + 12 * n →
    s.outByte h ≠ none →
    let attached := (s.session h).state = .attached
    let u : State :=
      { s with
        ports := s.ports.put h
          { s.port h with
            reply := some { r with transferred := 2 + 12 * ((r.transferred - 2) / 12 + 1) }
            statusSent := true
            lastSent :=
              match (s.resultQueue h).records with
              | x :: _ => if attached then x.bytes[11]? else some 0x00
              | [] => some 0x00
            readPhase := if h = 2 ∧ ack = false then .ended else (s.port h).readPhase } }
    exec (.recordTransferred h ack) s = .next
      (match (s.resultQueue h).records with
      | [] => u
      | _ :: rest =>
        let interval := (s.session h).options.staleInterval
        let stale : Bool :=
          match rest with
          | [] => false
          | x :: _ => decide (interval ≠ 0 ∧ interval ≤ (s.timebase - x.timestamp).toNat)
        ({ u with
          results := s.results.put h { s.resultQueue h with records := rest, staleMark := stale } }
            : State).schedule)

/-- A notice leaves the head of the queue when its last byte has been transferred (R134, R166), and the
discarded-records count is lowered by the value reported when byte 12 of a Read Status reply has been
(R77, R181); a notice queue that a teardown has emptied loses nothing, and its bytes go out as 0x00
(R134), the session telling the teardown (log entry 28). That the rows advance over the item's earlier
bytes is the model's choice (log entry 13), and so are the port's fields for the byte sent (log entry
11). -/
def Obligations.NoticesAndCountsLeaveWhenTransferred : Prop :=
  ∀ (h : HostId) (ack : Bool) (r : Reply) (s : State),
    (s.port h).reply = some r → s.outByte h ≠ none →
    let sent (count : Nat) (b : Option Byte) : Table 3 Port :=
      s.ports.put h
        { s.port h with
          reply := some { r with transferred := count }
          statusSent := true
          lastSent := b
          readPhase := if h = 2 ∧ ack = false then .ended else (s.port h).readPhase }
    (∀ n, r.body = .notices n → 1 ≤ n → r.transferred < 2 + 8 * n →
      exec (.noticeTransferred h ack) s = .next
        { s with
          ports := sent (2 + 8 * ((r.transferred - 2) / 8 + 1))
            (match (s.noticeQueue h).notices with
            | x :: _ => if (s.session h).state = .attached then x.bytes[7]? else some 0x00
            | [] => some 0x00)
          notices := s.notices.put h
            { s.noticeQueue h with notices := (s.noticeQueue h).notices.tail } }) ∧
    (∀ bytes reported, r.body = .status bytes reported → r.transferred < 13 →
      exec (.discardCountTransferred h ack) s = .next
        { s with
          ports := sent 13 (some ((bytes[12]?).getD 0))
          results := s.results.put h
            { s.resultQueue h with discarded := (s.resultQueue h).discarded - reported } })

/-- While its port drives bytes out, the row transfers one: the captured status byte first, then the
reply's bytes in order, then fill. A reply fixed at judgement sends the bytes it was fixed with; a drain
or notice reply sends OK, its count, and the bytes of the member at the head of the queue, and once a
teardown has ended the session it sends the rest as 0x00 (R88, R134, R150, R160, R162, R165, R166, R172,
R173). A byte that ends a record, a notice or the count field of Read Status has the effect of that
item's row; any other changes the port alone; a port that drives nothing transfers nothing. The model's
choices: a row that cannot occur changes nothing (log entry 3), its own port fields (log entry 11), the
MISO byte of a byte taken (log entry 12), the item rows (log entry 13), and that the session tells the
teardown (log entry 28). -/
def Obligations.ReplyBytesAreTransferredInOrder : Prop :=
  ∀ (h : HostId) (ack : Bool) (s : State),
    let p := s.port h
    let drives : Prop :=
      (if h = 2 then p.readPhase = .begun else p.phase ≠ .idle) ∧
        (p.statusSent = true ∨ p.statusCapture ≠ none)
    let size (r : Reply) : Nat :=
      match r.body with
      | .fixed bytes => bytes.length
      | .status bytes _ => bytes.length
      | .drain n => 2 + 12 * n
      | .notices n => 2 + 8 * n
    let carries (r : Reply) (b : Byte) : Prop :=
      let counted (n width : Nat) (head : Option (List Byte)) : Prop :=
        if (s.session h).state ≠ .attached then b = 0x00
        else if r.transferred = 0 then b = 0
        else if r.transferred = 1 then b = byteOf n
        else
          match head with
          | none => b = 0x00
          | some member => member[(r.transferred - 2) % width]? = some b
      match r.body with
      | .fixed bytes => bytes[r.transferred]? = some b
      | .status bytes _ => bytes[r.transferred]? = some b
      | .drain n => counted n 12 ((s.resultQueue h).records.head?.map ResultRecord.bytes)
      | .notices n => counted n 8 ((s.noticeQueue h).notices.head?.map Notice.bytes)
    let endsItem (r : Reply) : Prop :=
      match r.body with
      | .fixed _ => False
      | .status _ _ => r.transferred = 12
      | .drain _ => 2 ≤ r.transferred ∧ (r.transferred - 1) % 12 = 0
      | .notices _ => 2 ≤ r.transferred ∧ (r.transferred - 1) % 8 = 0
    (¬ drives → s.outByte h = none ∧ exec (.replyByteTransferred h ack) s = .next s) ∧
    (drives → ∃ (t : State) (b : Byte), exec (.replyByteTransferred h ack) s = .next t ∧
      s.outByte h = some b ∧ (∀ g, g ≠ h → t.port g = s.port g) ∧
      t.port h =
        { p with
          reply := (t.port h).reply
          statusSent := true
          lastSent := some b
          readPhase := if h = 2 ∧ ack = false then .ended else p.readPhase } ∧
      (p.statusSent = false →
        p.statusCapture = some b ∧ (t.port h).reply = p.reply ∧ t = { s with ports := t.ports }) ∧
      (p.statusSent = true → ∀ r, p.reply = some r → r.transferred < size r →
        carries r b ∧
        (t.port h).reply = some { r with transferred := r.transferred + 1 } ∧
        (¬ endsItem r → t = { s with ports := t.ports }) ∧
        (endsItem r → ∀ n, r.body = .drain n → exec (.recordTransferred h ack) s = .next t) ∧
        (endsItem r → ∀ n, r.body = .notices n → exec (.noticeTransferred h ack) s = .next t) ∧
        (endsItem r → ∀ bytes n, r.body = .status bytes n →
          exec (.discardCountTransferred h ack) s = .next t)) ∧
      (p.statusSent = true → (∀ r, p.reply = some r → size r ≤ r.transferred) →
        b = (if h = 2 then 0xFF else 0x00) ∧ (t.port h).reply = p.reply ∧
          t = { s with ports := t.ports }))

/-! ### Channels, generators and watches -/

/-- Claim, Release and Configure Channel: an accepted command changes the one entry, a refused one
nothing (R62, R63, R64). A command row stands for its whole frame (log entry 2). -/
def Obligations.ChannelCommandsObeyOwnership : Prop :=
  ∀ (h : HostId) (c : ChannelId) (setting : BitVec 2) (rate : Rate) (s : State),
    (s.session h).state = .attached →
    let x := s.channel c
    let held := x.owner ≠ none ∧ x.owner ≠ some h
    ((s.port h).awaits .claimChannel = true →
      ∃ t, exec (.claimChannel h [byteOf c.val]) s = .next t ∧
        if held then s.EndsFrame t h .heldByOther
        else State.EndsFrame { s with channels := s.channels.put c { x with owner := some h } } t h .ok) ∧
    ((s.port h).awaits .releaseChannel = true →
      ∃ t, exec (.releaseChannel h [byteOf c.val]) s = .next t ∧
        if x.owner = some h then
          State.EndsFrame { s with channels := s.channels.put c { x with owner := none } } t h .ok
        else s.EndsFrame t h .notOwner) ∧
    ((s.port h).awaits .configureChannel = true →
      ∃ t, exec (.configureChannel h [byteOf c.val, byteOf setting.toNat, rate.code]) s = .next t ∧
        if held then s.EndsFrame t h .heldByOther
        else
          State.EndsFrame { s with channels := s.channels.put c { x with setting := setting, rate := rate } }
            t h .ok)

/-- Claim, Release, Stop and Program Trigger: the ownership check, the state check of Program Trigger,
and the one generator changed. A release and a stop post nothing (R94, R95, R96, R102). A command row
stands for its whole frame (log entry 2). -/
def Obligations.TriggerCommandsObeyOwnership : Prop :=
  ∀ (h : HostId) (g : GeneratorId) (s : State), (s.session h).state = .attached →
    let x := s.generator g
    let put (y : Generator) : State := { s with generators := s.generators.put g y }
    ((s.port h).awaits .claimTrigger = true →
      ∃ t, exec (.claimTrigger h [byteOf g.val]) s = .next t ∧
        if x.owner ≠ none ∧ x.owner ≠ some h then s.EndsFrame t h .heldByOther
        else (put { x with owner := some h }).EndsFrame t h .ok) ∧
    ((s.port h).awaits .releaseTrigger = true →
      ∃ t, exec (.releaseTrigger h [byteOf g.val]) s = .next t ∧
        if x.owner = some h then
          (put { x with owner := none, state := .stopped, remaining := none }).EndsFrame t h .ok
        else s.EndsFrame t h .notOwner) ∧
    ((s.port h).awaits .stopTrigger = true →
      ∃ t, exec (.stopTrigger h [byteOf g.val]) s = .next t ∧
        if x.owner = some h then
          (put { x with state := .stopped, remaining := none }).EndsFrame t h .ok
        else s.EndsFrame t h .notOwner) ∧
    (∀ (params : List Byte) (p : TriggerProgram), (s.port h).awaits .programTrigger = true →
      params.length = 13 → programParams params = some (g, p) →
      ∃ t, exec (.programTrigger h params) s = .next t ∧
        if x.owner ≠ some h then s.EndsFrame t h .notOwner
        else if x.state ≠ .stopped then s.EndsFrame t h .wrongState
        else
          (put { x with mode := p.mode, delay := p.delay, period := p.period, fraction := p.fraction,
                        burst := p.burst, start := p.start }).EndsFrame t h .ok)

/-- Start Trigger: a fresh firings count and accumulator; an external start waits for its edge, a
command start counts its delay down, or fires in the same event when the delay is 0 (R97, R99). A
command row stands for its whole frame (log entry 2). One scheduling occasion closes the event (log
entry 8). -/
def Obligations.StartTriggerBeginsARun : Prop :=
  ∀ (h : HostId) (g : GeneratorId) (s : State), (s.session h).state = .attached →
    (s.port h).awaits .startTrigger = true →
    let x := s.generator g
    let put (y : Generator) : State := { s with generators := s.generators.put g y }
    let fresh : Generator := { x with firings := 0, accumulator := 0 }
    ∃ t, exec (.startTrigger h [byteOf g.val]) s = .next t ∧
      if x.owner ≠ some h then s.EndsFrame t h .notOwner
      else if x.state ≠ .stopped then s.EndsFrame t h .wrongState
      else if x.start ≠ .command then (put { fresh with state := .waitingEdge }).EndsFrame t h .ok
      else if x.delay ≠ 0 then
        (put { fresh with state := .delaying, remaining := some x.delay.toNat }).schedule.EndsFrame t h .ok
      else
        ((put { fresh with state := .delaying, remaining := none }).fireGenerator g).schedule.EndsFrame
          t h .ok

/-- A firing of a generator: it is counted modulo 65536 and delivered to the matching jobs; then a ONCE
generator, or a BURST one that has reached its burst count, is STOPPED with TRIGGER_ENDED to its owner,
and any other is RUNNING with the fraction added to its accumulator and the carry to its interval (R100,
R101). -/
def Obligations.AFiringCountsDeliversAndEndsOrGoesOn : Prop :=
  ∀ (g : GeneratorId) (s : State),
    let x := s.generator g
    let count := x.firings + 1
    let u := State.deliver { s with generators := s.generators.put g { x with firings := count } }
      fun src => src == .generator g
    let ends := x.mode = .once ∨ x.mode = .burst ∧ count.toNat = x.burst.toNat
    let sum := x.accumulator + x.fraction.toNat
    u.generators = s.generators.put g { x with firings := count } ∧
    (ends →
      let v : State :=
        { u with
          generators :=
            u.generators.put g { x with firings := count, state := .stopped, remaining := none } }
      s.fireGenerator g =
        match x.owner with
        | some h => v.post h .triggerEnded (byteOf g.val) count.toNat
        | none => v) ∧
    (¬ ends →
      s.fireGenerator g =
        { u with
          generators := u.generators.put g
            { x with
              firings := count
              state := .running
              accumulator := if 16 ≤ sum then sum - 16 else sum
              remaining := some (if 16 ≤ sum then x.period.toNat + 1 else x.period.toNat) } })

/-- A delay or a period whose count has reached 0 fires its generator, and a scheduling occasion
follows; one that is not due does nothing (R99, R100; log entries 3, 5). One scheduling occasion closes
the event (log entry 8). -/
def Obligations.DueGeneratorsFire : Prop :=
  ∀ (g : GeneratorId) (s : State),
    let x := s.generator g
    exec (.triggerDelayExpiry g) s = .next
      (if x.state = .delaying ∧ x.remaining = some 0 then (s.fireGenerator g).schedule else s) ∧
    exec (.triggerPeriodExpiry g) s = .next
      (if x.state = .running ∧ x.remaining = some 0 then (s.fireGenerator g).schedule else s)

/-- Set Watch and Clear Watch: the six fields, the owner and the state UNKNOWN (R114, R115). A command
row stands for its whole frame (log entry 2). -/
def Obligations.WatchCommandsObeyOwnership : Prop :=
  ∀ (h : HostId) (w : WatchId) (s : State), (s.session h).state = .attached →
    let x := s.watch w
    (∀ (params : List Byte) (y : Watch), (s.port h).awaits .setWatch = true →
      params.length = 9 → watchParams h params = some (w, y) →
      ∃ t, exec (.setWatch h params) s = .next t ∧
        if x.owner ≠ none ∧ x.owner ≠ some h then s.EndsFrame t h .heldByOther
        else
          y.owner = some h ∧ y.state = .unknown ∧
            State.EndsFrame { s with watches := s.watches.put w y } t h .ok) ∧
    ((s.port h).awaits .clearWatch = true →
      ∃ t, exec (.clearWatch h [byteOf w.val]) s = .next t ∧
        if x.owner = some h then
          State.EndsFrame
            { s with watches := s.watches.put w { x with owner := none, state := .unknown } } t h .ok
        else s.EndsFrame t h .notOwner)

/-- Read Channel, Read Trigger and Read Watch report the entry to any ATTACHED host, whatever its owner,
in 15, 18 and 11 bytes (R68, R103, R116, R181). A command row stands for its whole frame (log entry 2).
The byte in the clocks of an SPI judgement is log entry 12, and the port fields for it log entry 11. -/
def Obligations.TableReadsReportTheEntry : Prop :=
  ∀ (h : HostId) (c : ChannelId) (g : GeneratorId) (w : WatchId) (s : State),
    (s.session h).state = .attached →
    let owner (o : Option HostId) : Byte := match o with | some k => byteOf k.val | none => 0xFF
    let x := s.channel c
    let y := s.generator g
    let z := s.watch w
    let channel : List Byte :=
      [0, owner x.owner, byteOf x.setting.toNat, x.rate.code, if x.valid then 1 else 0]
        ++ beBytes 2 x.code.toNat ++ beBytes 4 x.timestamp.toNat ++ [byteOf x.producer.val, x.tag]
        ++ beBytes 2 x.sequence.toNat
    let trigger : List Byte :=
      [0, owner y.owner, y.mode.code] ++ beBytes 3 y.delay.toNat ++ beBytes 3 y.period.toNat
        ++ [y.fraction, y.burst]
        ++ (match y.start with
            | .command => [0, 0, 0]
            | .external pin rising => [1, byteOf pin.val, if rising then 0 else 1])
        ++ [y.state.code] ++ beBytes 2 y.firings.toNat ++ [byteOf y.accumulator]
    let watch : List Byte :=
      [0, owner z.owner, byteOf z.channel.val] ++ beBytes 2 z.low.toNat ++ beBytes 2 z.high.toNat
        ++ [z.zone.code, z.hysteresis, if z.clearNotices then 1 else 0, z.state.code]
    channel.length = 15 ∧ trigger.length = 18 ∧ watch.length = 11 ∧
    ((s.port h).awaits .readChannel = true →
      ∃ t, exec (.readChannel h (byteOf c.val)) s = .next t ∧
        s.FixesReply t h .readChannel [byteOf c.val] .ok (.fixed channel)) ∧
    ((s.port h).awaits .readTrigger = true →
      ∃ t, exec (.readTrigger h (byteOf g.val)) s = .next t ∧
        s.FixesReply t h .readTrigger [byteOf g.val] .ok (.fixed trigger)) ∧
    ((s.port h).awaits .readWatch = true →
      ∃ t, exec (.readWatch h (byteOf w.val)) s = .next t ∧
        s.FixesReply t h .readWatch [byteOf w.val] .ok (.fixed watch))

/-! ### Firings, arrivals and edges -/

/-- A firing reaches every job whose source matches it, in the order of admission (R105), and an arrival
acts by the job's state and policy (R106 to R110): an ARMED job becomes READY at the tail of its Ready
List; HOLD keeps one arrival; RESTART starts a pass over when the account can be topped up; every other
arrival is an overrun, reported once. A job is RUNNING with no conversion of its own in flight only
between a report and the Job Table's share of it (R36), and there a RESTART arrival is an overrun (R110;
the shares and what comes between them are log entry 6). The table in the order of admission is log
entry 23. -/
def Obligations.AnArrivalActsByStateAndPolicy : Prop :=
  (∀ (hits : Source → Bool) (s : State),
    s.deliver hits =
      ((s.jobs.filter fun j => hits j.source).map Job.id).foldl (fun u id => u.arrival id) s) ∧
  ∀ (j : Job) (s : State), s.findJob j.id = some j →
    let change (f : Job → Job) (u : State) : State :=
      { u with jobs := u.jobs.map fun k => if k.id = j.id then f k else k }
    let count := min 65535 (j.overruns + 1)
    let overrun : State :=
      change (fun k => { k with overruns := count, overrunReported := true })
        (if j.overrunReported then s else s.post j.id.owner .overrun j.id.tag count)
    let restart (u : State) : State :=
      change (fun k => { k with state := .suspended, cursor := 0, redo := false, restarted := true,
                                produced := 0 })
        { u with converter := u.converter.filter fun ctx => ctx.job != j.id }
    let q := s.resultQueue j.id.owner
    (j.state = .armed →
      s.arrival j.id =
        { change (fun k => { k with state := .ready }) s with
          ready := s.ready.put j.cls (s.ready.get j.cls ++ [j.id]) }) ∧
    (j.state ≠ .armed →
      (j.policy = .ignore → s.arrival j.id = overrun) ∧
      (j.policy = .hold → s.arrival j.id =
        if j.pendingTrigger then overrun else change (fun k => { k with pendingTrigger := true }) s) ∧
      (j.policy = .restart → j.state = .ready → s.arrival j.id = overrun) ∧
      (j.policy = .restart → j.state = .running → s.executes j.id = false → s.arrival j.id = overrun) ∧
      (j.policy = .restart →
        j.state = .suspended ∨ j.state = .running ∧ s.executes j.id = true →
        s.arrival j.id =
          match q.accounts.get j.cls with
          | none => restart s
          | some held =>
            if j.produced ≤ 64 - q.records.length - q.reserved then
              restart { s with
                results := s.results.put j.id.owner
                  { q with accounts := q.accounts.put j.cls (some (held + j.produced)) } }
            else overrun))

/-- An edge taken at a pin, rising when the new sample is high: the detector keeps the sample, every
generator that waits for that edge of that pin enters DELAYING or fires at once, the edge is delivered
to the jobs bound to the pin with RISE, FALL or EITHER as it matches, and one scheduling occasion
follows; every other generator stays as it is, and a sample equal to the previous one is no edge (R5,
R98, R99, R104, R105). The order and the sample are operands (log entries 7, 25). One scheduling
occasion closes the event (log entry 8). -/
def Obligations.AnEdgeStartsTheWaitingGenerators : Prop :=
  ∀ (p : PinId) (level : Bool) (order : EdgeOrder) (s : State),
    let waits (x : Generator) : Prop := x.state = .waitingEdge ∧ x.start = .external p level
    let start (u : State) (g : GeneratorId) : State :=
      let x := u.generator g
      let delaying (ticks : Option Nat) : State :=
        { u with generators := u.generators.put g { x with state := .delaying, remaining := ticks } }
      if waits x then
        if x.delay = 0 then (delaying none).fireGenerator g else delaying (some x.delay.toNat)
      else u
    let matching (src : Source) : Bool :=
      decide (src = .pin p .either ∨ src = .pin p (if level then .rise else .fall))
    let before := order.before.foldl start { s with trigSample := s.trigSample.put p level }
    (s.trigSample.get p = level → exec (.trigEdge p level order) s = .next s) ∧
    (s.trigSample.get p ≠ level →
      ∃ t, exec (.trigEdge p level order) s = .next t ∧
        t = ((order.after ++ [0, 1, 2, 3]).foldl start (before.deliver matching)).schedule ∧
        t.trigSample = s.trigSample.put p level ∧ t.timebase = s.timebase ∧ t.ports = s.ports ∧
        t.sessions = s.sessions ∧ t.channels = s.channels ∧ t.watches = s.watches ∧
        ∀ g : GeneratorId,
          if waits (s.generator g) then
            (t.generator g).state ≠ .waitingEdge ∧ (t.generator g).owner = (s.generator g).owner ∧
            ((s.generator g).delay ≠ 0 → t.generator g =
              { s.generator g with
                state := .delaying, remaining := some (s.generator g).delay.toNat })
          else t.generator g = s.generator g)

/-! ### Host ports -/

/-- A frame begins: CS falls on an idle SPI port, or the I2C port's own address follows a START; the
status byte is captured, and a direction R begins the read phase (R158, R160, R161, R167, R168, R173).
CS falling during a frame changes nothing (log entry 3). A START on a bus that has had no STOP is a
repeated START, whatever its address and direction (R168; log entry 21). -/
def Obligations.AFrameBeginsWithItsStatusCapture : Prop :=
  ∀ s : State,
    let begun (h : HostId) (read : Bool) : State :=
      { s with
        ports := s.ports.put h
          { phase := .command, statusCapture := some (s.statusByte h),
            readPhase := if read then .begun else .notBegun, lastOutcome := (s.port h).lastOutcome } }
    (∀ (p : SpiPort) (h : HostId), h.val = p.val →
      exec (.frameBegin (.csFall p)) s = .next
        (if (s.port h).phase = .idle then begun h false else s)) ∧
    (∀ (address : BitVec 7) (read : Bool), (s.port 2).phase = .idle →
      exec (.frameBegin (.start address read)) s = .next
        (if address = (0b10100 : BitVec 5) ++ s.adr then begun 2 read else s)) ∧
    (∀ (address : BitVec 7) (read : Bool), (s.port 2).phase ≠ .idle →
      exec (.frameBegin (.start address read)) s = exec (.frameEnd (.repeatedStart address read)) s)

/-- The command table: the codes, the types and the parameter lengths (R177). A byte that a port takes:
the command byte, by its code; a parameter byte of a write-type command, counted; the parameter byte of
a read-type command, which judges it; and a byte that nothing takes (R158, R162, R163, R164, R169). On
an SPI port the same clocks carry the status byte with the command byte and 0x00 with a parameter byte.
The parameter bytes are held, not their count alone (log entry 10); in REPLY and DISCARDING the byte
sent in the same clocks is a row of its own (log entry 12). -/
def Obligations.BytesTakenMoveThePhase : Prop :=
  Command.all.map (fun c => (c.code.toNat, c.isRead)) =
    [(0x01, false), (0x02, false), (0x03, false), (0x04, true), (0x10, false), (0x11, false),
     (0x12, true), (0x18, true), (0x19, true), (0x20, false), (0x21, false), (0x22, false), (0x23, true),
     (0x30, false), (0x31, false), (0x32, false), (0x33, false), (0x34, false), (0x35, true),
     (0x40, false), (0x41, false), (0x42, true)] ∧
  (∀ (b : Byte) (c : Command), Command.ofCode b = some c ↔ b = c.code) ∧
  (∀ (c : Command) (bytes : List Byte), requiredLength c bytes =
    match c with
    | .attach => some (if bytes = [] then 0 else 8)
    | .submitJob => (bytes[10]?).map fun n => 11 + 3 * n.toNat
    | .setHostOptions => some 8
    | .configureChannel => some 3
    | .programTrigger => some 13
    | .setWatch => some 9
    | .detach | .readStatus => some 0
    | _ => some 1) ∧
  ∀ (h : HostId) (b : Byte) (s : State),
    h ≠ 2 ∨ s.i2cWrites = true ∧ s.refusalOf b = none →
    let p := s.port h
    let sent (q : Port) (x : Option Byte) : Prop :=
      if h = 2 then q.statusSent = p.statusSent ∧ q.lastSent = p.lastSent
      else q.statusSent = true ∧ q.lastSent = x
    ∃ t, exec (.byteTaken h b) s = .next t ∧ t = { s with ports := t.ports } ∧
      (∀ g, g ≠ h → t.port g = s.port g) ∧ (t.port h).readPhase = p.readPhase ∧
      (p.phase = .command → ∀ c, Command.ofCode b = some c →
        (t.port h).command = some b ∧
        (if c = .readStatus then
          (∃ bytes n, s.FixesReply t h c [] .ok (.status bytes n)) ∧
          exec (.byteTaken h b) s = .next (s.fixReply h c [] (answerRead c h [] s))
        else sent (t.port h) p.statusCapture ∧ (t.port h).phase = .parameters ∧ (t.port h).params = p.params ∧
          (t.port h).required = requiredLength c [] ∧ (t.port h).lastOutcome = p.lastOutcome)) ∧
      (p.phase = .command → Command.ofCode b = none →
        (t.port h).phase = .discarding ∧ (t.port h).command = some b ∧ sent (t.port h) p.statusCapture ∧
        (t.port h).lastOutcome = p.lastOutcome) ∧
      (p.phase = .parameters → ∀ c, p.command = some c.code → c.isRead = false →
        (t.port h).phase = .parameters ∧ (t.port h).command = p.command ∧
        (t.port h).params = p.params ++ [b] ∧ sent (t.port h) (some 0x00) ∧
        (t.port h).required = requiredLength c (p.params ++ [b]) ∧
        (t.port h).lastOutcome = p.lastOutcome) ∧
      (p.phase = .parameters → ∀ i c, p.command = some c.code → c.isRead = true → p.params = [] →
        p.readPhase = .notBegun → frameOf i = some (h, c, [b]) → exec (.byteTaken h b) s = exec i s) ∧
      (p.phase = .reply ∨ p.phase = .discarding ∨ p.phase = .idle → t = s)

/-- The I2C port refuses a written byte in the three cases of its table, with the pending outcome they
give, enters DISCARDING and gives up any reply; the greatest length of Attach is 8, that of Submit Job
776 until its count is taken and the length that the count implies from then on, and that of every other
command its required length (R17, R170, R171, R177). The refused command byte counting as the frame's is
log entry 20; a refusal row of a byte that the port accepts changes nothing (log entry 3). -/
def Obligations.TheI2cPortRefusesBytes : Prop :=
  (∀ (c : Command) (bytes : List Byte), some (greatestLength c bytes) =
    match c with
    | .attach => some 8
    | .submitJob =>
      match bytes[10]? with
      | none => some 776
      | some n => some (11 + 3 * n.toNat)
    | c => requiredLength c bytes) ∧
  ∀ (b : Byte) (s : State),
    let p := s.port 2
    let refusal : Option CmdOutcome :=
      match p.phase with
      | .command =>
        if Command.ofCode b = none then some .unknownCommand
        else if b = 0x10 ∧ (s.session 2).state = .attached ∧ s.slotRuleAdmits 2 = false then some .noSlot
        else none
      | .parameters =>
        match p.command.bind Command.ofCode with
        | some c => if greatestLength c p.params ≤ p.params.length then some .frameError else none
        | none => none
      | .reply => some .frameError
      | .idle => none
      | .discarding => none
    exec (.i2cByteRefused b) s = .next
      (match refusal with
      | none => s
      | some o =>
        if p.readPhase = .notBegun then
          { s with
            ports := s.ports.put 2
              { p with
                phase := .discarding, pendingOutcome := some o, command := some (p.command.getD b),
                reply := none } }
        else s) ∧
    (∀ o, refusal = some o → exec (.byteTaken 2 b) s = exec (.i2cByteRefused b) s)

/-- A repeated START with the port's address and R begins the read phase of the frame in progress, once;
after a read phase, and with another address or W, it ends the frame and may begin another; in
DISCARDING it does nothing, whatever its address and direction (R168, R171, R172). On an idle bus it is
the START of a bare read (R173; log entry 21). -/
def Obligations.ARepeatedStartBeginsTheReadPhase : Prop :=
  ∀ s : State,
    let p := s.port 2
    (p.phase = .command ∨ p.phase = .parameters ∨ p.phase = .reply → p.readPhase = .notBegun →
      exec .readPhaseBegin s = .next { s with ports := s.ports.put 2 { p with readPhase := .begun } }) ∧
    (p.phase = .command ∨ p.phase = .parameters ∨ p.phase = .reply → p.readPhase ≠ .notBegun →
      ∃ u, exec (.frameEnd .stop) s = .next u ∧
        exec .readPhaseBegin s = exec (.frameBegin (.start s.i2cAddress true)) u) ∧
    (p.phase = .discarding → exec .readPhaseBegin s = .next s) ∧
    (p.phase = .discarding → ∀ (address : BitVec 7) (read : Bool),
      exec (.frameEnd (.repeatedStart address read)) s = .next s) ∧
    (p.phase = .idle →
      exec .readPhaseBegin s = exec (.frameBegin (.start s.i2cAddress true)) s) ∧
    exec (.frameEnd (.repeatedStart s.i2cAddress true)) s = exec .readPhaseBegin s ∧
    (∀ (address : BitVec 7) (read : Bool), address ≠ s.i2cAddress ∨ read = false →
      p.phase = .command ∨ p.phase = .parameters ∨ p.phase = .reply →
      ∃ u, exec (.frameEnd .stop) s = .next u ∧
        exec (.frameEnd (.repeatedStart address read)) s = exec (.frameBegin (.start address read)) u)

/-- The end of a frame, by the first case that applies (R159, R161, R171): no command byte, a pending
outcome, an undefined code, a write-type command of a wrong or of its exact length, a read-type command
unjudged or judged. A write-type command row stands for its whole frame (log entry 2); a port in IDLE
has no frame to end (log entry 3); a STOP carries no partial byte (log entry 22). -/
def Obligations.AFrameEndActsByItsCase : Prop :=
  ∀ (how : FrameStop) (h : HostId) (partialByte : Bool) (s : State),
    (∃ port : SpiPort, how = .csRise port partialByte ∧ h.val = port.val) ∨
      how = .stop ∧ h = 2 ∧ partialByte = false →
    let p := s.port h
    (p.phase = .idle → exec (.frameEnd how) s = .next s) ∧
    (p.phase ≠ .idle → p.command = none →
      exec (.frameEnd how) s = .next
        { s with ports := s.ports.put h { lastOutcome := p.lastOutcome } }) ∧
    (p.phase ≠ .idle → ∀ code, p.command = some code →
      ∃ t, exec (.frameEnd how) s = .next t ∧
        (∀ o, p.pendingOutcome = some o → s.EndsFrame t h o) ∧
        (p.pendingOutcome = none → Command.ofCode code = none → s.EndsFrame t h .unknownCommand) ∧
        (p.pendingOutcome = none → ∀ c, Command.ofCode code = some c →
          (c.isRead = true →
            s.EndsFrame t h (if p.phase = .reply then p.lastOutcome else .frameError)) ∧
          (c.isRead = false → partialByte = true ∨ p.required ≠ some p.params.length →
            s.EndsFrame t h .frameError) ∧
          (c.isRead = false → partialByte = false → p.required = some p.params.length →
            p.phase = .parameters → ∀ i, frameOf i = some (h, c, p.params) → exec i s = .next t)))

/-! ### Time -/

/-- A tick: the timebase rises by one and every count of a generator and of a lease timer falls by one
(R90, R99, R100, R148). Expiries that are due and not yet taken are taken before it, the generators in
ascending number, then the leases, then the stale marks (log entry 5), and first of all what an open
completion still leaves (log entry 6); with nothing due, nothing else moves. The stale mark is set when
the age of the head record, modulo 2^32, has reached a non-zero stale interval, and it is not cleared
there (R83): at least the interval is log entry 24, and a row that finds it not reached changes nothing
(log entry 3). -/
def Obligations.TicksCountDownAndHeadsGrowStale : Prop :=
  ∀ s : State,
    let tick (u : State) : State :=
      { u with
        timebase := u.timebase + 1
        generators := u.generators.map fun g => { g with remaining := g.remaining.map (· - 1) }
        sessions := u.sessions.map fun x => { x with lease := x.lease.map (· - 1) } }
    (∀ h : HostId,
      let q := s.resultQueue h
      let interval := (s.session h).options.staleInterval
      exec (.staleIntervalReached h) s = .next
        (match q.records with
        | [] => s
        | r :: _ =>
          if interval ≠ 0 ∧ interval ≤ (s.timebase - r.timestamp).toNat then
            { s with results := s.results.put h { q with staleMark := true } }
          else s)) ∧
    (∃ u, execAll
        ((if s.completion = none then [] else [.conversionComplete [.watch, .job, .select]]) ++
        [.triggerDelayExpiry 0, .triggerPeriodExpiry 0, .triggerDelayExpiry 1, .triggerPeriodExpiry 1,
         .triggerDelayExpiry 2, .triggerPeriodExpiry 2, .triggerDelayExpiry 3, .triggerPeriodExpiry 3,
         .leaseTimerExpiry 0, .leaseTimerExpiry 1, .leaseTimerExpiry 2,
         .staleIntervalReached 0, .staleIntervalReached 1, .staleIntervalReached 2]) s = .next u ∧
      exec .timebaseTick s = .next (tick u)) ∧
    (s.completion = none → (∀ g : GeneratorId, (s.generator g).remaining ≠ some 0) →
    (∀ h : HostId, (s.session h).lease ≠ some 0) →
    (∀ h : HostId, s.headReached h (s.resultQueue h).records = true →
      (s.resultQueue h).staleMark = true) →
    exec .timebaseTick s = .next (tick s))

/-! ### The converter -/

/-- The sampling phase ends: the timebase is the sample timestamp, the input is held, and the converter
is CONVERTING; nothing else changes (R56). In the other states, and in the moment of a completion, no
sampling phase can end (log entries 3, 6). The sample held in the context is log entry 14. -/
def Obligations.TheSamplingPhaseEndsWithATimestamp : Prop :=
  ∀ (input : AnalogInput) (s : State),
    exec (.samplingPhaseEnd input) s = .next
      (match s.converter with
      | some ctx =>
        if s.completion = none ∧ ctx.phase = .sampling then
          { s with converter := some { ctx with phase := .converting s.timebase input } }
        else s
      | none => s)

/-- The completion of a conversion: a CONVERT replaces the channel's latest value whole and raises its
sequence number, a COMPARE leaves every channel; and what the row names follows, each thing once: every
set watch on the channel evaluates the code of a CONVERT, in ascending number, and every other watch,
and every watch at a COMPARE, stays as it was; the Job Table takes its share, after which the RUNNING
job stands SUSPENDED; and the selection is made behind the Job Table's share, at the latest at the end
of its row. What a row leaves out a later row takes, and before the Job Table's share no event selects
(R35, R36, R45, R57); what removes the job is preceded by the shares it must find taken (R25, R59). Of
the RUNNING job, the record of a pass with a place left in its account joins the tail of its owner's
queue with the Job Table's share and is tested as its head if the queue was empty, every other record
staying where it was (R19, R66, R67, R70, R75, R83, R117, R121). The shares and their order are the
row's operand (log entry 6); in the other states no conversion can end (log entry 3). One scheduling
occasion closes a share that makes one (log entry 8). The sample held in the context is log entry 14. -/
def Obligations.ACompletionUpdatesChannelAndQueue : Prop :=
  ∀ (shares : List CompletionShare) (s : State),
    let watches (r : Report) (u : State) : State :=
      if r.kind = .convert then
        ([0, 1, 2, 3, 4, 5, 6, 7] : List WatchId).foldl (fun u w =>
          match (u.watch w).owner with
          | some g => if (u.watch w).channel = r.channel then u.evaluate w g r.value else u
          | none => u) u
      else u
    let awaiting (r : Report) (u : State) : State :=
      { u with
        jobs := u.jobs.map fun k =>
          if k.id = r.job ∧ k.state = .running then { k with state := .suspended } else k }
    let take (u : State) (x : CompletionShare) : State :=
      match u.completion with
      | none => u
      | some c =>
        let left := c.left.erase x
        let taken : Option Completion := if left = [] then none else some { report := c.report, left }
        if x ∉ c.left then u
        else
          match x with
          | .watch => (watches c.report { u with completion := taken }).schedule
          | .job => { awaiting c.report (u.jobShare c.report) with completion := taken }
          | .select => if .job ∈ c.left then u else ({ u with completion := taken } : State).schedule
    (∀ c, s.completion = some c →      exec (.conversionComplete shares) s = .next ((shares ++ [CompletionShare.select]).foldl take s)) ∧
    (s.completion = none → (∀ ctx ∈ s.converter, ctx.phase = .sampling) →
      exec (.conversionComplete shares) s = .next s) ∧    (∀ c, s.completion = some c → .job ∈ c.left → s.select = s) ∧
    (∀ c removed, s.completion = some c →      s.settle shares removed =
        if removed c.report.job then (shares ++ [CompletionShare.select]).foldl take s else s) ∧
    ∀ (ctx : Context) (ts : Timestamp) (held : AnalogInput),
      s.completion = none → s.converter = some ctx → ctx.phase = .converting ts held →
      let v := ctx.value held
      let report : Report :=
        { job := ctx.job, index := ctx.index, channel := ctx.channel, kind := ctx.kind, value := v,
          timestamp := ts, fast := decide (ctx.kind = .convert ∧ ctx.rate = some .fast) }
      let latest (c : ChannelId) : Channel :=
        if ctx.kind = .convert ∧ c = ctx.channel then
          { s.channel c with
            valid := true, code := v, timestamp := ts, producer := ctx.job.owner, tag := ctx.job.tag,
            sequence := (s.channel c).sequence + 1 }
        else s.channel c
      let reported : State :=
        { s with
          converter := none
          channels := s.channels.put ctx.channel (latest ctx.channel)
          completion := some { report, left := [.watch, .job, .select] } }
      ∃ t, exec (.conversionComplete shares) s = .next t ∧ t = (shares ++ [CompletionShare.select]).foldl take reported ∧
        (∀ c : ChannelId, t.channel c = latest c) ∧
        (∀ w : WatchId, t.watch w =
          if .watch ∈ shares ∧ ctx.kind = .convert ∧ (s.watch w).owner ≠ none ∧
              (s.watch w).channel = ctx.channel then
            (s.evaluate w ((s.watch w).owner.getD 0) v).watch w
          else s.watch w) ∧
        t.sessions = s.sessions ∧ t.ports = s.ports ∧ t.generators = s.generators ∧        (t.completion = none ↔ .watch ∈ shares ∧ .job ∈ shares) ∧
        ∀ j : Job, s.findJob ctx.job = some j → j.state = .running →
          let q := s.resultQueue ctx.job.owner
          let r : ResultRecord :=
            { tag := j.id.tag, index := BitVec.ofNat 4 j.cursor, channel := ctx.channel, kind := ctx.kind,
              redone := j.redo, last := decide (j.entries.length ≤ j.cursor + 1), fast := report.fast,
              restarted := j.restarted, value := v, pass := BitVec.ofNat 16 j.passesDone, timestamp := ts,
              check := 0 }
          let interval := (s.session ctx.job.owner).options.staleInterval
          (∀ h : HostId, h ≠ ctx.job.owner → (t.resultQueue h).records = (s.resultQueue h).records) ∧
          (j.dest = .table ∨ .job ∉ shares →
            ∀ h : HostId, (t.resultQueue h).records = (s.resultQueue h).records) ∧
          (j.dest = .queue → .job ∈ shares → ∀ n, s.account ctx.job.owner j.cls = some (n + 1) →
            (t.resultQueue ctx.job.owner).records = q.records ++ [{ r with check := -byteSum r.body }] ∧
            (t.resultQueue ctx.job.owner).staleMark =
              if q.records = [] then decide (interval ≠ 0 ∧ interval ≤ (s.timebase - ts).toNat)
              else q.staleMark)

/-- A record without a reservation takes a free place, whole and sealed, or is dropped and counted (R19,
R70, R76, R77); one that becomes the head is tested against the stale interval at once (R83). Taken
first among the shares of its completion, it meets the queue as it stands (the order is the row's
operand, log entry 6). The sample held in the context is log entry 14. -/
def Obligations.AnUnreservedRecordIsPlacedOrDropped : Prop :=
  ∀ (shares : List CompletionShare) (ctx : Context) (ts : Timestamp) (held : AnalogInput) (j : Job)
      (s : State),
    s.completion = none → s.converter = some ctx → ctx.phase = .converting ts held →
    s.findJob ctx.job = some j → j.dest = .queue → s.account ctx.job.owner j.cls = none →
    let q := s.resultQueue ctx.job.owner
    let r : ResultRecord :=
      { tag := j.id.tag, index := BitVec.ofNat 4 j.cursor, channel := ctx.channel, kind := ctx.kind,
        redone := j.redo, last := decide (j.entries.length ≤ j.cursor + 1),
        fast := decide (ctx.kind = .convert ∧ ctx.rate = some .fast), restarted := j.restarted,
        value := ctx.value held, pass := BitVec.ofNat 16 j.passesDone, timestamp := ts, check := 0 }
    let interval := (s.session ctx.job.owner).options.staleInterval
    ∃ t, exec (.conversionComplete (.job :: shares)) s = .next t ∧
      if q.records.length + q.reserved < 64 then
        (t.resultQueue ctx.job.owner).records = q.records ++ [{ r with check := -byteSum r.body }] ∧
        byteSum ({ r with check := -byteSum r.body } : ResultRecord).bytes = 0 ∧
        (t.resultQueue ctx.job.owner).discarded = q.discarded ∧
        (t.resultQueue ctx.job.owner).staleMark =
          if q.records = [] then decide (interval ≠ 0 ∧ interval ≤ (s.timebase - ts).toNat)
          else q.staleMark
      else
        (t.resultQueue ctx.job.owner).records = q.records ∧
        (t.resultQueue ctx.job.owner).discarded = min 65535 (q.discarded + 1) ∧
        (t.resultQueue ctx.job.owner).staleMark = q.staleMark

/-- An entry that is not the last completes: the record is offered, REDO is cleared and the cursor
advances, produced or discarded counting the record; the job's state is left as it is (R11, R19). -/
def Obligations.AnEntryCompletionAdvancesTheCursor : Prop :=
  ∀ (r : Report) (j : Job) (s : State),
    s.findJob r.job = some j → j.cursor + 1 < j.entries.length →
    let q := s.resultQueue r.job.owner
    let placed := (∃ n, q.accounts.get j.cls = some (n + 1)) ∨ q.records.length + q.reserved < 64
    ∃ k, (s.jobShare r).findJob r.job = some k ∧
      (j.dest = .table → k = { j with redo := false, cursor := j.cursor + 1 }) ∧
      (j.dest = .queue → placed →
        k = { j with redo := false, cursor := j.cursor + 1, produced := j.produced + 1 }) ∧
      (j.dest = .queue → ¬ placed →
        k = { j with redo := false, cursor := j.cursor + 1, discarded := min 16 (j.discarded + 1) }) ∧
      (s.jobShare r).marker = s.marker ∧ (s.jobShare r).ready = s.ready ∧
      (s.jobShare r).notices = s.notices

/-- The completion of the last entry of a list offers the record, its LAST flag set, and then ends the
pass of the job as the offer has left it (R22). A pass ends: passes done rises, PASS_DONE,
RESULTS_DISCARDED and JOB_DONE are posted in this order as they apply, the marker and the account of the
class are cleared, and the job completes, returns to READY at the tail of its list, or becomes ARMED
(R22, R23, R78). -/
def Obligations.APassEndNotifiesAndDisposes : Prop :=
  ∀ (j : Job) (s : State), s.findJob j.id = some j →
    let h := j.id.owner
    let done := min 65535 (j.passesDone + 1)
    let ended : Job :=
      { j with passesDone := done, cursor := 0, redo := false, restarted := false,
               overrunReported := false, produced := 0, discarded := 0 }
    let completes := j.passLimit ≠ 0 ∧ done = j.passLimit
    let ready := j.pendingTrigger = true ∨ j.source = .now
    let t := s.endPass j
    let n1 := if j.notifyPass then s.post h .passDone j.id.tag j.passesDone else s
    let n2 := if 0 < j.discarded then n1.post h .resultsDiscarded j.id.tag j.discarded else n1
    let n3 := if completes then n2.post h .jobDone j.id.tag done else n2
    (∀ r : Report, r.job = j.id → j.entries.length ≤ j.cursor + 1 →
      let q := s.resultQueue h
      let placed := (∃ n, q.accounts.get j.cls = some (n + 1)) ∨ q.records.length + q.reserved < 64
      let record : ResultRecord :=
        { tag := j.id.tag, index := BitVec.ofNat 4 j.cursor, channel := r.channel, kind := r.kind,
          redone := j.redo, last := true, fast := r.fast, restarted := j.restarted, value := r.value,
          pass := BitVec.ofNat 16 j.passesDone, timestamp := r.timestamp, check := 0 }
      (j.dest = .table → s.jobShare r = t) ∧
      (j.dest = .queue → placed →
        s.jobShare r =
          (s.offer j.id j.cls record).endPass { j with produced := j.produced + 1 }) ∧
      (j.dest = .queue → ¬ placed →
        s.jobShare r =
          (s.offer j.id j.cls record).endPass { j with discarded := min 16 (j.discarded + 1) })) ∧
    t.notices = n3.notices ∧ t.marker = s.marker.put j.cls none ∧
    t.results = s.results.put h
      { s.resultQueue h with accounts := (s.resultQueue h).accounts.put j.cls none } ∧
    (completes → t.jobs = s.jobs.filter (fun k => k.id != j.id) ∧ t.ready = s.ready) ∧
    (¬ completes → ready →
      t.findJob j.id = some { ended with state := .ready, pendingTrigger := false } ∧
      t.ready = s.ready.put j.cls (s.ready.get j.cls ++ [j.id])) ∧
    (¬ completes → ¬ ready → t.findJob j.id = some { ended with state := .armed } ∧ t.ready = s.ready)

/-- The value of a conversion: the code of the band its input lies in, 0 at or below 0 V and 4095 at the
top; a COMPARE yields 1 exactly when the input reaches the lower edge of its threshold's band, always
for threshold 0 (R53). At rate FAST the code is the same with its two least significant bits 0 (R54).
The sample held in the context is the model's choice (log entry 14). -/
def Obligations.CodesStandForTheirBands : Prop :=
  ∀ (held : AnalogInput), 0 < held.refin →
    (∀ ctx : Context, ctx.kind = .convert → ctx.rate = some .normal →
      (∀ n : Nat, n < 4095 → ((ctx.value held).toNat = n ↔
        (n = 0 ∨ (n : Int) * held.refin ≤ held.vin * 4096) ∧
        held.vin * 4096 < ((n : Int) + 1) * held.refin)) ∧
      ((ctx.value held).toNat = 4095 ↔ 4095 * (held.refin : Int) ≤ held.vin * 4096) ∧
      (held.vin ≤ 0 → ctx.value held = 0) ∧
      (({ ctx with rate := some .fast } : Context).value held).toNat = (ctx.value held).toNat / 4 * 4) ∧
    (∀ (ctx : Context) (threshold : Code), ctx.kind = .compare → ctx.threshold = some threshold →
      ctx.value held =
        if threshold = 0 ∨ (threshold.toNat : Int) * held.refin ≤ held.vin * 4096 then 1 else 0)

/-! ### Watches -/

/-- A set watch in UNKNOWN or CLEAR judges a code against its alert zone alone: in the zone it enters
ALERT, posts WATCH_ALERT to its owner and then fires its source; outside it becomes CLEAR with nothing
handed on (R118, R122, R123). -/
def Obligations.AWatchOutOfAlertJudgesItsZone : Prop :=
  ∀ (w : WatchId) (h : HostId) (v : Code) (s : State), (s.watch w).state ≠ .alert →
    let x := s.watch w
    let zone : Prop := if x.zone = .inside then x.low ≤ v ∧ v ≤ x.high else v < x.low ∨ x.high < v
    (zone → s.evaluate w h v =
      State.deliver
        (State.post { s with watches := s.watches.put w { x with state := .alert } } h .watchAlert
          (byteOf w.val) v.toNat)
        fun src => src == .watch w) ∧
    (¬ zone → s.evaluate w h v = { s with watches := s.watches.put w { x with state := .clear } }) ∧
    (x.zone = .outside → x.low = 0 → x.high = 4095 → ¬ zone) ∧
    (x.zone = .inside → x.low = 0 → x.high = 4095 → zone) ∧
    (x.low = x.high → (x.zone = .inside → (zone ↔ v = x.low)) ∧ (x.zone = .outside → (zone ↔ v ≠ x.low)))

/-- A watch in ALERT stays there while the code lies in the zone widened by the hysteresis, its bounds
clamped into 0 to 4095, and hands nothing on; otherwise it returns to CLEAR, with WATCH_CLEAR when clear
notices are on, and fires nothing (R119, R120, R122). -/
def Obligations.AWatchInAlertReleasesByItsBand : Prop :=
  ∀ (w : WatchId) (h : HostId) (v : Code) (s : State), (s.watch w).state = .alert →
    let x := s.watch w
    let clamp (n : Int) : Int := max 0 (min 4095 n)
    let y : Int := x.hysteresis.toNat
    let stays : Prop :=
      if x.zone = .inside then
        clamp (x.low.toNat - y) ≤ v.toNat ∧ v.toNat ≤ clamp (x.high.toNat + y)
      else v.toNat < clamp (x.low.toNat + y) ∨ clamp (x.high.toNat - y) < v.toNat
    let u : State := { s with watches := s.watches.put w { x with state := .clear } }
    (stays → s.evaluate w h v = s) ∧
    (¬ stays → s.evaluate w h v =
      if x.clearNotices then u.post h .watchClear (byteOf w.val) v.toNat else u)

/-! ### Notices, interrupt lines and formats -/

/-- What a notice queue does with a post to an ATTACHED host, by its lost count and free places; a post
to any other host is not taken (R126, R129, R130). -/
def Obligations.APostIsStoredMarkedOrCountedAsLost : Prop :=
  ∀ (s : State) (h : HostId) (kind : NoticeKind) (subject : Byte) (detail : Nat),
    let q := s.noticeQueue h
    let n : Notice := ⟨kind, subject, BitVec.ofNat 16 detail, s.timebase⟩
    let free := 16 - q.notices.length
    let put (x : NoticeQueue) : State := { s with notices := s.notices.put h x }
    ((s.session h).state ≠ .attached → s.post h kind subject detail = s) ∧
    ((s.session h).state = .attached →
      (q.lost = 0 → 1 ≤ free →
        s.post h kind subject detail = put { q with notices := q.notices ++ [n] }) ∧
      (q.lost = 0 → free = 0 → s.post h kind subject detail = put { q with lost := 1 }) ∧
      (1 ≤ q.lost → 2 ≤ free →
        s.post h kind subject detail =
          put ⟨q.notices ++ [⟨.lost, 0, BitVec.ofNat 16 q.lost, s.timebase⟩, n], 0⟩) ∧
      (1 ≤ q.lost → free ≤ 1 →
        s.post h kind subject detail = put { q with lost := min 255 (q.lost + 1) }))

/-- IRQh is asserted exactly while host h is ATTACHED and one of its three conditions holds (R82, R83,
R135). -/
def Obligations.TheInterruptLineFollowsItsConditions : Prop :=
  ∀ (s : State) (h : HostId),
    s.irqAsserted h = true ↔
      (s.session h).state = .attached ∧
        ((s.session h).options.watermark ≤ (s.resultQueue h).records.length ∨
          (s.resultQueue h).staleMark = true ∨
          (s.noticeQueue h).notices ≠ [] ∧ (s.session h).options.noticeInterrupt = true)

/-- The port status byte carries the last outcome, by the table of outcome codes, in its low four bits
and the four indications above them; its low bits never exceed 11, so it is never 0xFF; a host that
holds nothing without a session shows no indication; and after device reset it is 0x00 on every port
(R160, R180). -/
def Obligations.TheStatusByteCarriesItsIndications : Prop :=
  (∀ o : CmdOutcome, o.code.toNat =
    match o with
    | .ok => 0
    | .unknownCommand => 1
    | .frameError => 2
    | .badParam => 3
    | .notAttached => 4
    | .lapsed => 5
    | .noSlot => 6
    | .tagInUse => 7
    | .noSuchJob => 8
    | .notOwner => 9
    | .heldByOther => 10
    | .wrongState => 11) ∧
  (∀ (s : State) (h : HostId),
    (s.statusByte h).toNat % 16 = (s.port h).lastOutcome.code.toNat ∧
    (s.port h).lastOutcome.code.toNat ≤ 11 ∧ s.statusByte h ≠ 0xFF ∧
    ((s.statusByte h).getLsbD 7 = true ↔ (s.session h).state = .attached) ∧
    ((s.statusByte h).getLsbD 6 = true ↔ (s.noticeQueue h).notices ≠ []) ∧
    ((s.statusByte h).getLsbD 5 = true ↔
      (s.session h).options.watermark ≤ (s.resultQueue h).records.length) ∧
    ((s.statusByte h).getLsbD 4 = true ↔ (s.resultQueue h).staleMark = true)) ∧
  (∀ (s : State) (h : HostId), s.departedLaw → 1 ≤ (s.session h).options.watermark →
    (s.session h).state ≠ .attached → (s.statusByte h).toNat < 16) ∧
  (∀ (straps : Straps) (h : HostId), (State.afterReset straps).statusByte h = 0x00)

/-- A record with its check byte takes twelve bytes that sum to 0 modulo 256, laid out as the table
gives (R70, R182); a notice takes eight (R183); and the codes of the named values on the wire, most
significant byte first where a field has several (R176). -/
def Obligations.RecordsAreSealedAndLaidOut : Prop :=
  (∀ r : ResultRecord,
    byteSum r.sealed.bytes = 0 ∧ r.sealed.bytes.length = 12 ∧
    r.bytes =
      [r.tag, r.index ++ BitVec.ofNat 4 r.channel.val,
       (if r.redone then 1 else 0) + (if r.last then 2 else 0) + (if r.fast then 4 else 0)
         + (if r.restarted then 8 else 0) + (if r.kind = .compare then 128 else 0)]
        ++ beBytes 2 r.value.toNat ++ beBytes 2 r.pass.toNat ++ beBytes 4 r.timestamp.toNat ++ [r.check]) ∧
  (∀ (kind : NoticeKind) (subject d1 d0 t3 t2 t1 t0 : Byte),
    Notice.bytes ⟨kind, subject, d1 ++ d0, t3 ++ t2 ++ t1 ++ t0⟩ =
      [match kind with
        | .jobDone => 1
        | .passDone => 2
        | .overrun => 3
        | .resultsDiscarded => 4
        | .watchAlert => 5
        | .watchClear => 6
        | .triggerEnded => 7
        | .hostLeft => 8
        | .lost => 9,
       subject, d1, d0, t3, t2, t1, t0]) ∧
  (∀ b3 b2 b1 b0 : Byte,
    beBytes 2 (256 * b1.toNat + b0.toNat) = [b1, b0] ∧
    beBytes 3 (65536 * b2.toNat + 256 * b1.toNat + b0.toNat) = [b2, b1, b0] ∧
    beBytes 4 (16777216 * b3.toNat + 65536 * b2.toNat + 256 * b1.toNat + b0.toNat) = [b3, b2, b1, b0] ∧
    byteOf b0.toNat = b0) ∧
  (∀ (g : GeneratorId) (p : PinId) (edge : Edge) (w : WatchId),
    Source.now.byte = 0x00 ∧ (Source.generator g).byte.toNat = 0x10 + g.val ∧
    (Source.pin p edge).byte.toNat = 0x20 + p.val ∧ (Source.watch w).byte.toNat = 0x30 + w.val ∧
    Source.now.edgeByte = 0 ∧ (Source.generator g).edgeByte = 0 ∧ (Source.watch w).edgeByte = 0 ∧
    (Source.pin p edge).edgeByte = edge.code) ∧
  [JobKind.convert, .compare].map JobKind.code = [0, 1] ∧
  [JobClass.urgent, .normal, .background].map JobClass.code = [0, 1, 2] ∧
  [Destination.queue, .table].map Destination.code = [0, 1] ∧
  [RetriggerPolicy.ignore, .hold, .restart].map RetriggerPolicy.code = [0, 1, 2] ∧
  [Edge.rise, .fall, .either].map Edge.code = [0, 1, 2] ∧
  [JobState.armed, .ready, .running, .suspended].map JobState.code = [0, 1, 2, 3] ∧
  [Rate.normal, .fast].map Rate.code = [0, 1] ∧
  [TriggerMode.once, .periodic, .burst].map TriggerMode.code = [0, 1, 2] ∧
  [GeneratorState.stopped, .waitingEdge, .delaying, .running].map GeneratorState.code = [0, 1, 2, 3] ∧
  [Zone.inside, .outside].map Zone.code = [0, 1] ∧
  [WatchState.unknown, .clear, .alert].map WatchState.code = [0, 1, 2] ∧
  [SessionState.detached, .attached, .lapsed].map SessionState.code = [0, 1, 2]

/-! ### Scheduling -/

/-- A READY job is eligible when its destination is TABLE, its owner's full policy DISCARD, or the free
places of its owner's queue number at least its entries (R32); a class qualifies with its marker set or
with an eligible job (R37). A selection serves the highest class that qualifies, and within a class
whose marker is clear it takes the hosts in rotation from the pointer and the oldest eligible job of the
first that has one (R28, R31, R37, R39). -/
def Obligations.SelectionIsByClassThenRotation : Prop :=
  ∀ s : State,
    (∀ j : Job, s.eligible j = true ↔
      let q := s.resultQueue j.id.owner
      j.state = .ready ∧
        (j.dest = .table ∨ (s.session j.id.owner).options.fullPolicy = .discard ∨
          j.entries.length ≤ 64 - q.records.length
            - (q.accounts.urgent.getD 0 + q.accounts.normal.getD 0 + q.accounts.background.getD 0))) ∧
    (∀ c, s.eligibleJobs c =
      (s.ready.get c).filterMap fun id => (s.jobs.find? fun j => j.id == id).filter s.eligible) ∧
    (∀ c, s.qualifies c = true ↔ s.marker.get c ≠ none ∨ s.eligibleJobs c ≠ []) ∧
    (∀ c, s.chosenClass = some c →
      s.qualifies c = true ∧ ∀ d : JobClass, d.rank < c.rank → s.qualifies d = false) ∧
    (s.chosenClass = none ↔ ∀ c, s.qualifies c = false) ∧
    (∀ (c : JobClass) (j : Job), s.chosenJob c = some j →
      let p := s.rotation.get c
      j ∈ s.eligibleJobs c ∧
      (∀ k ∈ s.eligibleJobs c, k.id.owner = p + 1 → j.id.owner = p + 1) ∧
      (∀ k ∈ s.eligibleJobs c, k.id.owner = p + 2 → j.id.owner = p + 1 ∨ j.id.owner = p + 2) ∧
      (s.eligibleJobs c).find? (fun k => k.id.owner == j.id.owner) = some j) ∧
    (∀ c, s.chosenJob c = none → s.eligibleJobs c = [])

/-- A selection with the converter idle, and no completion waiting for the Job Table's share (R35, R57;
log entry 6), resumes the pass that the chosen class's marker names at its cursor, or grants the chosen
job a pass: out of its Ready List, marker and pointer set, places reserved for a QUEUE job under WAIT,
RUNNING at entry 0; a job left RUNNING in another class at a completion becomes SUSPENDED; either way
the converter latches the channel's settings and samples (R18, R20, R21, R38, R40, R41, R55, R74). -/
def Obligations.ASelectionResumesOrGrants : Prop :=
  ∀ (c : JobClass) (j : Job) (e : Entry) (s : State),
    (∀ x ∈ s.completion, .job ∉ x.left) → s.converter = none → s.chosenClass = some c →
    s.findJob j.id = some j → j.cls = c →
    let running (f : Job → Job) : List Job :=
      s.jobs.map fun k =>
        if k.id = j.id then f k
        else if k.state = .running ∧ k.cls ≠ c then { k with state := .suspended }
        else k
    let context (i : Nat) : Context :=
      { job := j.id, index := i, channel := e.channel, kind := j.kind,
        threshold := if j.kind = .compare then some e.threshold else none,
        setting := (s.channel e.channel).setting,
        rate := if j.kind = .convert then some (s.channel e.channel).rate else none,
        phase := .sampling }
    let q := s.resultQueue j.id.owner
    (s.marker.get c = some j.id → j.entries[j.cursor]? = some e →
      s.select =
        { s with
          jobs := running fun k => { k with state := .running }
          converter := some (context j.cursor) }) ∧
    (s.marker.get c = none → s.chosenJob c = some j → j.entries[0]? = some e →
      s.select =
        { s with
          jobs := running fun k =>
            { k with state := .running, cursor := 0, redo := false, restarted := false, produced := 0,
                     discarded := 0 }
          ready := s.ready.put c ((s.ready.get c).erase j.id)
          marker := s.marker.put c (some j.id)
          rotation := s.rotation.put c j.id.owner
          results :=
            if j.dest = .queue ∧ (s.session j.id.owner).options.fullPolicy = .wait then
              s.results.put j.id.owner { q with accounts := q.accounts.put c (some j.entries.length) }
            else s.results
          converter := some (context 0) })

/-- URGENT preemption, alone and together with a completion (R45, R59). While an eligible URGENT job
waits behind a conversion of a lower class, a scheduling occasion aborts that conversion, leaves its job
SUSPENDED at its cursor with REDO set, and selects (R20, R44, R58). Where the completion is taken first,
what comes between its report and the Job Table's share aborts nothing and selects nothing (R35): the
Job Table's share leaves the job SUSPENDED at the next entry with REDO clear, and the selection that
follows it chooses among all that has become eligible (R41, R57; log entry 6). One scheduling occasion
closes the event (log entry 8). -/
def Obligations.UrgentWorkPreemptsALowerClass : Prop :=
  (∀ (s : State) (c : Completion), s.completion = some c → .job ∈ c.left → s.converter = none →
    s.schedule = s) ∧
  (∀ (s : State) (c : Completion) (j : Job), s.completion = some c → s.converter = none →
    c.left = [.job, .select] ∨ c.left = [.watch, .job, .select] →
    s.findJob c.report.job = some j → j.state = .running → j.cursor + 1 < j.entries.length →
    ∃ (u : State) (k : Job), exec (.conversionComplete [.job]) s = .next u.select ∧
      u.findJob c.report.job = some k ∧ k.state = .suspended ∧ k.redo = false ∧
      k.cursor = j.cursor + 1 ∧ u.converter = none ∧ u.marker = s.marker ∧ u.ready = s.ready ∧
      u.completion = if .watch ∈ c.left then some { report := c.report, left := [.watch] } else none) ∧
  ∀ (ctx : Context) (j : Job) (s : State), s.converter = some ctx → s.findJob ctx.job = some j →
    s.schedule =
      if j.cls ≠ .urgent ∧ s.eligibleJobs .urgent ≠ [] then
        State.select
          { s with
            jobs := s.jobs.map fun k =>
              if k.id = ctx.job then { k with state := .suspended, redo := true } else k
            converter := none }
      else s

/-! ### Device reset -/

/-- DEVICE_RESET: every block at its reset values, the straps and the pin levels sampled (R1, R28, R30,
R31, R52, R60, R89, R90, R92, R104, R112, R139, R140, R175). The straps and levels are the row's operand
(log entry 1). The commands that wait outside stay queued (log entry 27). -/
def Obligations.DeviceResetRestoresEveryBlock : Prop :=
  ∀ (straps : Straps) (s : State),
    ∃ t, exec (.deviceReset straps) s = .next t ∧
      t.tbsel = straps.tbsel ∧ t.adr = straps.adr ∧ t.trigSample.get 0 = straps.trig0 ∧
      t.trigSample.get 1 = straps.trig1 ∧ t.timebase = 0 ∧ t.jobs = [] ∧
      (∀ c, t.ready.get c = [] ∧ t.marker.get c = none ∧ t.rotation.get c = 2) ∧ t.converter = none ∧
      t.completion = none ∧
      (∀ c, t.channel c = ⟨1, .normal, none, false, 0, 0, 0, 0, 0⟩) ∧
      (∀ g, t.generator g = ⟨none, .once, 0, 0, 0, 0, .command, .stopped, 0, 0, none⟩) ∧
      (∀ w, t.watch w = ⟨none, 0, 0, 0, .inside, 0, false, .unknown⟩) ∧
      (∀ h, t.resultQueue h = ⟨[], ⟨none, none, none⟩, false, 0⟩ ∧ t.noticeQueue h = ⟨[], 0⟩ ∧
        t.session h = ⟨.detached, ⟨16, 0, .wait, true, 0⟩, none⟩ ∧
        t.port h = { phase := .idle, lastOutcome := .ok } ∧ t.irqAsserted h = false) ∧
      t.pending = s.pending
end

