-- ==== Sys2Proof/Laws/Table.lean ====
section
/-! SUPPORT. The laws of the tables, of the values kept per class, and of numbers as bytes. -/

namespace Sys2Proof

section
variable {n : Nat} {α : Type}

@[simp] theorem Table.get_make (a : α) (i : Fin n) : (Table.make n a).get i = a := by
  simp [Table.get, Table.make]

@[simp] theorem Table.get_put_self (t : Table n α) (i : Fin n) (a : α) : (t.put i a).get i = a := by
  simp [Table.get, Table.put]

theorem Table.get_put_ne (t : Table n α) {i j : Fin n} (a : α) (h : j ≠ i) :
    (t.put i a).get j = t.get j := by
  simp [Table.get, Table.put, Fin.val_ne_of_ne h.symm]

theorem Table.get_put (t : Table n α) (i j : Fin n) (a : α) :
    (t.put i a).get j = if j = i then a else t.get j := by
  by_cases h : j = i
  · subst h; simp
  · simp [h, Table.get_put_ne]

@[simp] theorem Table.get_map (t : Table n α) (f : α → α) (i : Fin n) :
    (t.map f).get i = f (t.get i) := by
  simp [Table.get, Table.map]

@[ext] theorem Table.ext_get {t u : Table n α} (h : ∀ i, t.get i = u.get i) : t = u := by
  obtain ⟨a, ha⟩ := t
  obtain ⟨b, hb⟩ := u
  have : a = b := List.ext_getElem (by omega) fun i h1 _ => by
    simpa [Table.get] using h ⟨i, by omega⟩
  subst this
  rfl

@[simp] theorem Table.put_put (t : Table n α) (i : Fin n) (a b : α) :
    (t.put i a).put i b = t.put i b := by
  ext j
  simp only [Table.get_put]
  split <;> rfl

@[simp] theorem Table.put_get (t : Table n α) (i : Fin n) : t.put i (t.get i) = t := by
  ext j
  rw [Table.get_put]
  split
  · next h => rw [h]
  · rfl

theorem Table.put_comm (t : Table n α) {i j : Fin n} (a b : α) (h : i ≠ j) :
    (t.put i a).put j b = (t.put j b).put i a := by
  ext k
  simp only [Table.get_put]
  by_cases h1 : k = i <;> by_cases h2 : k = j <;> simp_all

end

namespace Machine

section
variable {α : Type}

@[simp] theorem PerClass.get_put_self (p : PerClass α) (c : JobClass) (a : α) :
    (p.put c a).get c = a := by cases c <;> rfl

theorem PerClass.get_put_ne (p : PerClass α) {c d : JobClass} (a : α) (h : d ≠ c) :
    (p.put c a).get d = p.get d := by cases c <;> cases d <;> first | rfl | exact absurd rfl h

theorem PerClass.get_put (p : PerClass α) (c d : JobClass) (a : α) :
    (p.put c a).get d = if d = c then a else p.get d := by
  cases c <;> cases d <;> rfl

@[simp] theorem PerClass.get_map (p : PerClass α) (f : α → α) (c : JobClass) :
    (p.map f).get c = f (p.get c) := by cases c <;> rfl

@[simp] theorem PerClass.put_put (p : PerClass α) (c : JobClass) (a b : α) :
    (p.put c a).put c b = p.put c b := by cases c <;> rfl

@[simp] theorem PerClass.put_get (p : PerClass α) (c : JobClass) : p.put c (p.get c) = p := by
  cases c <;> rfl

@[ext] theorem PerClass.ext_get {p q : PerClass α} (h : ∀ c, p.get c = q.get c) : p = q := by
  obtain ⟨a, b, c⟩ := p
  obtain ⟨d, e, f⟩ := q
  have h1 : a = d := h .urgent
  have h2 : b = e := h .normal
  have h3 : c = f := h .background
  subst h1 h2 h3
  rfl

end

/-! ### Numbers as bytes -/

@[simp] theorem beBytes_length (w n : Nat) : (beBytes w n).length = w := by
  induction w with
  | zero => rfl
  | succ w ih => simp [beBytes, ih]

theorem byteOf_toNat {n : Nat} (h : n < 256) : (byteOf n).toNat = n := by
  simp [byteOf, Nat.mod_eq_of_lt h]

theorem beNat_append_singleton (bs : List Byte) (b : Byte) :
    beNat (bs ++ [b]) = 256 * beNat bs + b.toNat := by
  simp [beNat]

end Machine
end Sys2Proof
end

