-- ==== Sys2Proof/Laws/State.lean ====
section
/-! SUPPORT. The state as a record: one lemma per field per update, true by rfl, and the same for the
accessors of one record of a block. -/

namespace Sys2Proof.Machine
namespace State

variable (s : State)


section
variable (h : HostId) (x : Session)
@[simp] theorem setSession_tbsel : (s.setSession h x).tbsel = s.tbsel := rfl
@[simp] theorem setSession_adr : (s.setSession h x).adr = s.adr := rfl
@[simp] theorem setSession_trigSample : (s.setSession h x).trigSample = s.trigSample := rfl
@[simp] theorem setSession_timebase : (s.setSession h x).timebase = s.timebase := rfl
@[simp] theorem setSession_jobs : (s.setSession h x).jobs = s.jobs := rfl
@[simp] theorem setSession_ready : (s.setSession h x).ready = s.ready := rfl
@[simp] theorem setSession_marker : (s.setSession h x).marker = s.marker := rfl
@[simp] theorem setSession_rotation : (s.setSession h x).rotation = s.rotation := rfl
@[simp] theorem setSession_converter : (s.setSession h x).converter = s.converter := rfl
@[simp] theorem setSession_completion : (s.setSession h x).completion = s.completion := rfl
@[simp] theorem setSession_channels : (s.setSession h x).channels = s.channels := rfl
@[simp] theorem setSession_generators : (s.setSession h x).generators = s.generators := rfl
@[simp] theorem setSession_watches : (s.setSession h x).watches = s.watches := rfl
@[simp] theorem setSession_results : (s.setSession h x).results = s.results := rfl
@[simp] theorem setSession_notices : (s.setSession h x).notices = s.notices := rfl
@[simp] theorem setSession_sessions : (s.setSession h x).sessions = s.sessions.put h x := rfl
@[simp] theorem setSession_ports : (s.setSession h x).ports = s.ports := rfl
@[simp] theorem setSession_pending : (s.setSession h x).pending = s.pending := rfl
@[simp] theorem setSession_session_self : (s.setSession h x).session h = x := Table.get_put_self ..
theorem setSession_session (i : HostId) : (s.setSession h x).session i = if i = h then x else s.session i :=
  Table.get_put ..
theorem setSession_session_ne {i : HostId} (hi : i ≠ h) : (s.setSession h x).session i = s.session i :=
  Table.get_put_ne _ _ hi
@[simp] theorem setSession_port (i : HostId) : (s.setSession h x).port i = s.port i := rfl
@[simp] theorem setSession_resultQueue (i : HostId) : (s.setSession h x).resultQueue i = s.resultQueue i := rfl
@[simp] theorem setSession_noticeQueue (i : HostId) : (s.setSession h x).noticeQueue i = s.noticeQueue i := rfl
@[simp] theorem setSession_channel (i : ChannelId) : (s.setSession h x).channel i = s.channel i := rfl
@[simp] theorem setSession_generator (i : GeneratorId) : (s.setSession h x).generator i = s.generator i := rfl
@[simp] theorem setSession_watch (i : WatchId) : (s.setSession h x).watch i = s.watch i := rfl
end

section
variable (h : HostId) (x : Port)
@[simp] theorem setPort_tbsel : (s.setPort h x).tbsel = s.tbsel := rfl
@[simp] theorem setPort_adr : (s.setPort h x).adr = s.adr := rfl
@[simp] theorem setPort_trigSample : (s.setPort h x).trigSample = s.trigSample := rfl
@[simp] theorem setPort_timebase : (s.setPort h x).timebase = s.timebase := rfl
@[simp] theorem setPort_jobs : (s.setPort h x).jobs = s.jobs := rfl
@[simp] theorem setPort_ready : (s.setPort h x).ready = s.ready := rfl
@[simp] theorem setPort_marker : (s.setPort h x).marker = s.marker := rfl
@[simp] theorem setPort_rotation : (s.setPort h x).rotation = s.rotation := rfl
@[simp] theorem setPort_converter : (s.setPort h x).converter = s.converter := rfl
@[simp] theorem setPort_completion : (s.setPort h x).completion = s.completion := rfl
@[simp] theorem setPort_channels : (s.setPort h x).channels = s.channels := rfl
@[simp] theorem setPort_generators : (s.setPort h x).generators = s.generators := rfl
@[simp] theorem setPort_watches : (s.setPort h x).watches = s.watches := rfl
@[simp] theorem setPort_results : (s.setPort h x).results = s.results := rfl
@[simp] theorem setPort_notices : (s.setPort h x).notices = s.notices := rfl
@[simp] theorem setPort_sessions : (s.setPort h x).sessions = s.sessions := rfl
@[simp] theorem setPort_ports : (s.setPort h x).ports = s.ports.put h x := rfl
@[simp] theorem setPort_pending : (s.setPort h x).pending = s.pending := rfl
@[simp] theorem setPort_session (i : HostId) : (s.setPort h x).session i = s.session i := rfl
@[simp] theorem setPort_port_self : (s.setPort h x).port h = x := Table.get_put_self ..
theorem setPort_port (i : HostId) : (s.setPort h x).port i = if i = h then x else s.port i :=
  Table.get_put ..
theorem setPort_port_ne {i : HostId} (hi : i ≠ h) : (s.setPort h x).port i = s.port i :=
  Table.get_put_ne _ _ hi
@[simp] theorem setPort_resultQueue (i : HostId) : (s.setPort h x).resultQueue i = s.resultQueue i := rfl
@[simp] theorem setPort_noticeQueue (i : HostId) : (s.setPort h x).noticeQueue i = s.noticeQueue i := rfl
@[simp] theorem setPort_channel (i : ChannelId) : (s.setPort h x).channel i = s.channel i := rfl
@[simp] theorem setPort_generator (i : GeneratorId) : (s.setPort h x).generator i = s.generator i := rfl
@[simp] theorem setPort_watch (i : WatchId) : (s.setPort h x).watch i = s.watch i := rfl
end

section
variable (h : HostId) (x : ResultQueue)
@[simp] theorem setResultQueue_tbsel : (s.setResultQueue h x).tbsel = s.tbsel := rfl
@[simp] theorem setResultQueue_adr : (s.setResultQueue h x).adr = s.adr := rfl
@[simp] theorem setResultQueue_trigSample : (s.setResultQueue h x).trigSample = s.trigSample := rfl
@[simp] theorem setResultQueue_timebase : (s.setResultQueue h x).timebase = s.timebase := rfl
@[simp] theorem setResultQueue_jobs : (s.setResultQueue h x).jobs = s.jobs := rfl
@[simp] theorem setResultQueue_ready : (s.setResultQueue h x).ready = s.ready := rfl
@[simp] theorem setResultQueue_marker : (s.setResultQueue h x).marker = s.marker := rfl
@[simp] theorem setResultQueue_rotation : (s.setResultQueue h x).rotation = s.rotation := rfl
@[simp] theorem setResultQueue_converter : (s.setResultQueue h x).converter = s.converter := rfl
@[simp] theorem setResultQueue_completion : (s.setResultQueue h x).completion = s.completion := rfl
@[simp] theorem setResultQueue_channels : (s.setResultQueue h x).channels = s.channels := rfl
@[simp] theorem setResultQueue_generators : (s.setResultQueue h x).generators = s.generators := rfl
@[simp] theorem setResultQueue_watches : (s.setResultQueue h x).watches = s.watches := rfl
@[simp] theorem setResultQueue_results : (s.setResultQueue h x).results = s.results.put h x := rfl
@[simp] theorem setResultQueue_notices : (s.setResultQueue h x).notices = s.notices := rfl
@[simp] theorem setResultQueue_sessions : (s.setResultQueue h x).sessions = s.sessions := rfl
@[simp] theorem setResultQueue_ports : (s.setResultQueue h x).ports = s.ports := rfl
@[simp] theorem setResultQueue_pending : (s.setResultQueue h x).pending = s.pending := rfl
@[simp] theorem setResultQueue_session (i : HostId) : (s.setResultQueue h x).session i = s.session i := rfl
@[simp] theorem setResultQueue_port (i : HostId) : (s.setResultQueue h x).port i = s.port i := rfl
@[simp] theorem setResultQueue_resultQueue_self : (s.setResultQueue h x).resultQueue h = x := Table.get_put_self ..
theorem setResultQueue_resultQueue (i : HostId) : (s.setResultQueue h x).resultQueue i = if i = h then x else s.resultQueue i :=
  Table.get_put ..
theorem setResultQueue_resultQueue_ne {i : HostId} (hi : i ≠ h) : (s.setResultQueue h x).resultQueue i = s.resultQueue i :=
  Table.get_put_ne _ _ hi
@[simp] theorem setResultQueue_noticeQueue (i : HostId) : (s.setResultQueue h x).noticeQueue i = s.noticeQueue i := rfl
@[simp] theorem setResultQueue_channel (i : ChannelId) : (s.setResultQueue h x).channel i = s.channel i := rfl
@[simp] theorem setResultQueue_generator (i : GeneratorId) : (s.setResultQueue h x).generator i = s.generator i := rfl
@[simp] theorem setResultQueue_watch (i : WatchId) : (s.setResultQueue h x).watch i = s.watch i := rfl
end

section
variable (h : HostId) (x : NoticeQueue)
@[simp] theorem setNoticeQueue_tbsel : (s.setNoticeQueue h x).tbsel = s.tbsel := rfl
@[simp] theorem setNoticeQueue_adr : (s.setNoticeQueue h x).adr = s.adr := rfl
@[simp] theorem setNoticeQueue_trigSample : (s.setNoticeQueue h x).trigSample = s.trigSample := rfl
@[simp] theorem setNoticeQueue_timebase : (s.setNoticeQueue h x).timebase = s.timebase := rfl
@[simp] theorem setNoticeQueue_jobs : (s.setNoticeQueue h x).jobs = s.jobs := rfl
@[simp] theorem setNoticeQueue_ready : (s.setNoticeQueue h x).ready = s.ready := rfl
@[simp] theorem setNoticeQueue_marker : (s.setNoticeQueue h x).marker = s.marker := rfl
@[simp] theorem setNoticeQueue_rotation : (s.setNoticeQueue h x).rotation = s.rotation := rfl
@[simp] theorem setNoticeQueue_converter : (s.setNoticeQueue h x).converter = s.converter := rfl
@[simp] theorem setNoticeQueue_completion : (s.setNoticeQueue h x).completion = s.completion := rfl
@[simp] theorem setNoticeQueue_channels : (s.setNoticeQueue h x).channels = s.channels := rfl
@[simp] theorem setNoticeQueue_generators : (s.setNoticeQueue h x).generators = s.generators := rfl
@[simp] theorem setNoticeQueue_watches : (s.setNoticeQueue h x).watches = s.watches := rfl
@[simp] theorem setNoticeQueue_results : (s.setNoticeQueue h x).results = s.results := rfl
@[simp] theorem setNoticeQueue_notices : (s.setNoticeQueue h x).notices = s.notices.put h x := rfl
@[simp] theorem setNoticeQueue_sessions : (s.setNoticeQueue h x).sessions = s.sessions := rfl
@[simp] theorem setNoticeQueue_ports : (s.setNoticeQueue h x).ports = s.ports := rfl
@[simp] theorem setNoticeQueue_pending : (s.setNoticeQueue h x).pending = s.pending := rfl
@[simp] theorem setNoticeQueue_session (i : HostId) : (s.setNoticeQueue h x).session i = s.session i := rfl
@[simp] theorem setNoticeQueue_port (i : HostId) : (s.setNoticeQueue h x).port i = s.port i := rfl
@[simp] theorem setNoticeQueue_resultQueue (i : HostId) : (s.setNoticeQueue h x).resultQueue i = s.resultQueue i := rfl
@[simp] theorem setNoticeQueue_noticeQueue_self : (s.setNoticeQueue h x).noticeQueue h = x := Table.get_put_self ..
theorem setNoticeQueue_noticeQueue (i : HostId) : (s.setNoticeQueue h x).noticeQueue i = if i = h then x else s.noticeQueue i :=
  Table.get_put ..
theorem setNoticeQueue_noticeQueue_ne {i : HostId} (hi : i ≠ h) : (s.setNoticeQueue h x).noticeQueue i = s.noticeQueue i :=
  Table.get_put_ne _ _ hi
@[simp] theorem setNoticeQueue_channel (i : ChannelId) : (s.setNoticeQueue h x).channel i = s.channel i := rfl
@[simp] theorem setNoticeQueue_generator (i : GeneratorId) : (s.setNoticeQueue h x).generator i = s.generator i := rfl
@[simp] theorem setNoticeQueue_watch (i : WatchId) : (s.setNoticeQueue h x).watch i = s.watch i := rfl
end

section
variable (c : ChannelId) (x : Channel)
@[simp] theorem setChannel_tbsel : (s.setChannel c x).tbsel = s.tbsel := rfl
@[simp] theorem setChannel_adr : (s.setChannel c x).adr = s.adr := rfl
@[simp] theorem setChannel_trigSample : (s.setChannel c x).trigSample = s.trigSample := rfl
@[simp] theorem setChannel_timebase : (s.setChannel c x).timebase = s.timebase := rfl
@[simp] theorem setChannel_jobs : (s.setChannel c x).jobs = s.jobs := rfl
@[simp] theorem setChannel_ready : (s.setChannel c x).ready = s.ready := rfl
@[simp] theorem setChannel_marker : (s.setChannel c x).marker = s.marker := rfl
@[simp] theorem setChannel_rotation : (s.setChannel c x).rotation = s.rotation := rfl
@[simp] theorem setChannel_converter : (s.setChannel c x).converter = s.converter := rfl
@[simp] theorem setChannel_completion : (s.setChannel c x).completion = s.completion := rfl
@[simp] theorem setChannel_channels : (s.setChannel c x).channels = s.channels.put c x := rfl
@[simp] theorem setChannel_generators : (s.setChannel c x).generators = s.generators := rfl
@[simp] theorem setChannel_watches : (s.setChannel c x).watches = s.watches := rfl
@[simp] theorem setChannel_results : (s.setChannel c x).results = s.results := rfl
@[simp] theorem setChannel_notices : (s.setChannel c x).notices = s.notices := rfl
@[simp] theorem setChannel_sessions : (s.setChannel c x).sessions = s.sessions := rfl
@[simp] theorem setChannel_ports : (s.setChannel c x).ports = s.ports := rfl
@[simp] theorem setChannel_pending : (s.setChannel c x).pending = s.pending := rfl
@[simp] theorem setChannel_session (i : HostId) : (s.setChannel c x).session i = s.session i := rfl
@[simp] theorem setChannel_port (i : HostId) : (s.setChannel c x).port i = s.port i := rfl
@[simp] theorem setChannel_resultQueue (i : HostId) : (s.setChannel c x).resultQueue i = s.resultQueue i := rfl
@[simp] theorem setChannel_noticeQueue (i : HostId) : (s.setChannel c x).noticeQueue i = s.noticeQueue i := rfl
@[simp] theorem setChannel_channel_self : (s.setChannel c x).channel c = x := Table.get_put_self ..
theorem setChannel_channel (i : ChannelId) : (s.setChannel c x).channel i = if i = c then x else s.channel i :=
  Table.get_put ..
theorem setChannel_channel_ne {i : ChannelId} (hi : i ≠ c) : (s.setChannel c x).channel i = s.channel i :=
  Table.get_put_ne _ _ hi
@[simp] theorem setChannel_generator (i : GeneratorId) : (s.setChannel c x).generator i = s.generator i := rfl
@[simp] theorem setChannel_watch (i : WatchId) : (s.setChannel c x).watch i = s.watch i := rfl
end

section
variable (g : GeneratorId) (x : Generator)
@[simp] theorem setGenerator_tbsel : (s.setGenerator g x).tbsel = s.tbsel := rfl
@[simp] theorem setGenerator_adr : (s.setGenerator g x).adr = s.adr := rfl
@[simp] theorem setGenerator_trigSample : (s.setGenerator g x).trigSample = s.trigSample := rfl
@[simp] theorem setGenerator_timebase : (s.setGenerator g x).timebase = s.timebase := rfl
@[simp] theorem setGenerator_jobs : (s.setGenerator g x).jobs = s.jobs := rfl
@[simp] theorem setGenerator_ready : (s.setGenerator g x).ready = s.ready := rfl
@[simp] theorem setGenerator_marker : (s.setGenerator g x).marker = s.marker := rfl
@[simp] theorem setGenerator_rotation : (s.setGenerator g x).rotation = s.rotation := rfl
@[simp] theorem setGenerator_converter : (s.setGenerator g x).converter = s.converter := rfl
@[simp] theorem setGenerator_completion : (s.setGenerator g x).completion = s.completion := rfl
@[simp] theorem setGenerator_channels : (s.setGenerator g x).channels = s.channels := rfl
@[simp] theorem setGenerator_generators : (s.setGenerator g x).generators = s.generators.put g x := rfl
@[simp] theorem setGenerator_watches : (s.setGenerator g x).watches = s.watches := rfl
@[simp] theorem setGenerator_results : (s.setGenerator g x).results = s.results := rfl
@[simp] theorem setGenerator_notices : (s.setGenerator g x).notices = s.notices := rfl
@[simp] theorem setGenerator_sessions : (s.setGenerator g x).sessions = s.sessions := rfl
@[simp] theorem setGenerator_ports : (s.setGenerator g x).ports = s.ports := rfl
@[simp] theorem setGenerator_pending : (s.setGenerator g x).pending = s.pending := rfl
@[simp] theorem setGenerator_session (i : HostId) : (s.setGenerator g x).session i = s.session i := rfl
@[simp] theorem setGenerator_port (i : HostId) : (s.setGenerator g x).port i = s.port i := rfl
@[simp] theorem setGenerator_resultQueue (i : HostId) : (s.setGenerator g x).resultQueue i = s.resultQueue i := rfl
@[simp] theorem setGenerator_noticeQueue (i : HostId) : (s.setGenerator g x).noticeQueue i = s.noticeQueue i := rfl
@[simp] theorem setGenerator_channel (i : ChannelId) : (s.setGenerator g x).channel i = s.channel i := rfl
@[simp] theorem setGenerator_generator_self : (s.setGenerator g x).generator g = x := Table.get_put_self ..
theorem setGenerator_generator (i : GeneratorId) : (s.setGenerator g x).generator i = if i = g then x else s.generator i :=
  Table.get_put ..
theorem setGenerator_generator_ne {i : GeneratorId} (hi : i ≠ g) : (s.setGenerator g x).generator i = s.generator i :=
  Table.get_put_ne _ _ hi
@[simp] theorem setGenerator_watch (i : WatchId) : (s.setGenerator g x).watch i = s.watch i := rfl
end

section
variable (w : WatchId) (x : Watch)
@[simp] theorem setWatch_tbsel : (s.setWatch w x).tbsel = s.tbsel := rfl
@[simp] theorem setWatch_adr : (s.setWatch w x).adr = s.adr := rfl
@[simp] theorem setWatch_trigSample : (s.setWatch w x).trigSample = s.trigSample := rfl
@[simp] theorem setWatch_timebase : (s.setWatch w x).timebase = s.timebase := rfl
@[simp] theorem setWatch_jobs : (s.setWatch w x).jobs = s.jobs := rfl
@[simp] theorem setWatch_ready : (s.setWatch w x).ready = s.ready := rfl
@[simp] theorem setWatch_marker : (s.setWatch w x).marker = s.marker := rfl
@[simp] theorem setWatch_rotation : (s.setWatch w x).rotation = s.rotation := rfl
@[simp] theorem setWatch_converter : (s.setWatch w x).converter = s.converter := rfl
@[simp] theorem setWatch_completion : (s.setWatch w x).completion = s.completion := rfl
@[simp] theorem setWatch_channels : (s.setWatch w x).channels = s.channels := rfl
@[simp] theorem setWatch_generators : (s.setWatch w x).generators = s.generators := rfl
@[simp] theorem setWatch_watches : (s.setWatch w x).watches = s.watches.put w x := rfl
@[simp] theorem setWatch_results : (s.setWatch w x).results = s.results := rfl
@[simp] theorem setWatch_notices : (s.setWatch w x).notices = s.notices := rfl
@[simp] theorem setWatch_sessions : (s.setWatch w x).sessions = s.sessions := rfl
@[simp] theorem setWatch_ports : (s.setWatch w x).ports = s.ports := rfl
@[simp] theorem setWatch_pending : (s.setWatch w x).pending = s.pending := rfl
@[simp] theorem setWatch_session (i : HostId) : (s.setWatch w x).session i = s.session i := rfl
@[simp] theorem setWatch_port (i : HostId) : (s.setWatch w x).port i = s.port i := rfl
@[simp] theorem setWatch_resultQueue (i : HostId) : (s.setWatch w x).resultQueue i = s.resultQueue i := rfl
@[simp] theorem setWatch_noticeQueue (i : HostId) : (s.setWatch w x).noticeQueue i = s.noticeQueue i := rfl
@[simp] theorem setWatch_channel (i : ChannelId) : (s.setWatch w x).channel i = s.channel i := rfl
@[simp] theorem setWatch_generator (i : GeneratorId) : (s.setWatch w x).generator i = s.generator i := rfl
@[simp] theorem setWatch_watch_self : (s.setWatch w x).watch w = x := Table.get_put_self ..
theorem setWatch_watch (i : WatchId) : (s.setWatch w x).watch i = if i = w then x else s.watch i :=
  Table.get_put ..
theorem setWatch_watch_ne {i : WatchId} (hi : i ≠ w) : (s.setWatch w x).watch i = s.watch i :=
  Table.get_put_ne _ _ hi
end

section
variable (c : JobClass) (x : List JobId)
@[simp] theorem setReady_tbsel : (s.setReady c x).tbsel = s.tbsel := rfl
@[simp] theorem setReady_adr : (s.setReady c x).adr = s.adr := rfl
@[simp] theorem setReady_trigSample : (s.setReady c x).trigSample = s.trigSample := rfl
@[simp] theorem setReady_timebase : (s.setReady c x).timebase = s.timebase := rfl
@[simp] theorem setReady_jobs : (s.setReady c x).jobs = s.jobs := rfl
@[simp] theorem setReady_ready : (s.setReady c x).ready = s.ready.put c x := rfl
@[simp] theorem setReady_marker : (s.setReady c x).marker = s.marker := rfl
@[simp] theorem setReady_rotation : (s.setReady c x).rotation = s.rotation := rfl
@[simp] theorem setReady_converter : (s.setReady c x).converter = s.converter := rfl
@[simp] theorem setReady_completion : (s.setReady c x).completion = s.completion := rfl
@[simp] theorem setReady_channels : (s.setReady c x).channels = s.channels := rfl
@[simp] theorem setReady_generators : (s.setReady c x).generators = s.generators := rfl
@[simp] theorem setReady_watches : (s.setReady c x).watches = s.watches := rfl
@[simp] theorem setReady_results : (s.setReady c x).results = s.results := rfl
@[simp] theorem setReady_notices : (s.setReady c x).notices = s.notices := rfl
@[simp] theorem setReady_sessions : (s.setReady c x).sessions = s.sessions := rfl
@[simp] theorem setReady_ports : (s.setReady c x).ports = s.ports := rfl
@[simp] theorem setReady_pending : (s.setReady c x).pending = s.pending := rfl
@[simp] theorem setReady_session (i : HostId) : (s.setReady c x).session i = s.session i := rfl
@[simp] theorem setReady_port (i : HostId) : (s.setReady c x).port i = s.port i := rfl
@[simp] theorem setReady_resultQueue (i : HostId) : (s.setReady c x).resultQueue i = s.resultQueue i := rfl
@[simp] theorem setReady_noticeQueue (i : HostId) : (s.setReady c x).noticeQueue i = s.noticeQueue i := rfl
@[simp] theorem setReady_channel (i : ChannelId) : (s.setReady c x).channel i = s.channel i := rfl
@[simp] theorem setReady_generator (i : GeneratorId) : (s.setReady c x).generator i = s.generator i := rfl
@[simp] theorem setReady_watch (i : WatchId) : (s.setReady c x).watch i = s.watch i := rfl
end

section
variable (c : JobClass) (x : Option JobId)
@[simp] theorem setMarker_tbsel : (s.setMarker c x).tbsel = s.tbsel := rfl
@[simp] theorem setMarker_adr : (s.setMarker c x).adr = s.adr := rfl
@[simp] theorem setMarker_trigSample : (s.setMarker c x).trigSample = s.trigSample := rfl
@[simp] theorem setMarker_timebase : (s.setMarker c x).timebase = s.timebase := rfl
@[simp] theorem setMarker_jobs : (s.setMarker c x).jobs = s.jobs := rfl
@[simp] theorem setMarker_ready : (s.setMarker c x).ready = s.ready := rfl
@[simp] theorem setMarker_marker : (s.setMarker c x).marker = s.marker.put c x := rfl
@[simp] theorem setMarker_rotation : (s.setMarker c x).rotation = s.rotation := rfl
@[simp] theorem setMarker_converter : (s.setMarker c x).converter = s.converter := rfl
@[simp] theorem setMarker_completion : (s.setMarker c x).completion = s.completion := rfl
@[simp] theorem setMarker_channels : (s.setMarker c x).channels = s.channels := rfl
@[simp] theorem setMarker_generators : (s.setMarker c x).generators = s.generators := rfl
@[simp] theorem setMarker_watches : (s.setMarker c x).watches = s.watches := rfl
@[simp] theorem setMarker_results : (s.setMarker c x).results = s.results := rfl
@[simp] theorem setMarker_notices : (s.setMarker c x).notices = s.notices := rfl
@[simp] theorem setMarker_sessions : (s.setMarker c x).sessions = s.sessions := rfl
@[simp] theorem setMarker_ports : (s.setMarker c x).ports = s.ports := rfl
@[simp] theorem setMarker_pending : (s.setMarker c x).pending = s.pending := rfl
@[simp] theorem setMarker_session (i : HostId) : (s.setMarker c x).session i = s.session i := rfl
@[simp] theorem setMarker_port (i : HostId) : (s.setMarker c x).port i = s.port i := rfl
@[simp] theorem setMarker_resultQueue (i : HostId) : (s.setMarker c x).resultQueue i = s.resultQueue i := rfl
@[simp] theorem setMarker_noticeQueue (i : HostId) : (s.setMarker c x).noticeQueue i = s.noticeQueue i := rfl
@[simp] theorem setMarker_channel (i : ChannelId) : (s.setMarker c x).channel i = s.channel i := rfl
@[simp] theorem setMarker_generator (i : GeneratorId) : (s.setMarker c x).generator i = s.generator i := rfl
@[simp] theorem setMarker_watch (i : WatchId) : (s.setMarker c x).watch i = s.watch i := rfl
end

section
variable (c : JobClass) (x : HostId)
@[simp] theorem setRotation_tbsel : (s.setRotation c x).tbsel = s.tbsel := rfl
@[simp] theorem setRotation_adr : (s.setRotation c x).adr = s.adr := rfl
@[simp] theorem setRotation_trigSample : (s.setRotation c x).trigSample = s.trigSample := rfl
@[simp] theorem setRotation_timebase : (s.setRotation c x).timebase = s.timebase := rfl
@[simp] theorem setRotation_jobs : (s.setRotation c x).jobs = s.jobs := rfl
@[simp] theorem setRotation_ready : (s.setRotation c x).ready = s.ready := rfl
@[simp] theorem setRotation_marker : (s.setRotation c x).marker = s.marker := rfl
@[simp] theorem setRotation_rotation : (s.setRotation c x).rotation = s.rotation.put c x := rfl
@[simp] theorem setRotation_converter : (s.setRotation c x).converter = s.converter := rfl
@[simp] theorem setRotation_completion : (s.setRotation c x).completion = s.completion := rfl
@[simp] theorem setRotation_channels : (s.setRotation c x).channels = s.channels := rfl
@[simp] theorem setRotation_generators : (s.setRotation c x).generators = s.generators := rfl
@[simp] theorem setRotation_watches : (s.setRotation c x).watches = s.watches := rfl
@[simp] theorem setRotation_results : (s.setRotation c x).results = s.results := rfl
@[simp] theorem setRotation_notices : (s.setRotation c x).notices = s.notices := rfl
@[simp] theorem setRotation_sessions : (s.setRotation c x).sessions = s.sessions := rfl
@[simp] theorem setRotation_ports : (s.setRotation c x).ports = s.ports := rfl
@[simp] theorem setRotation_pending : (s.setRotation c x).pending = s.pending := rfl
@[simp] theorem setRotation_session (i : HostId) : (s.setRotation c x).session i = s.session i := rfl
@[simp] theorem setRotation_port (i : HostId) : (s.setRotation c x).port i = s.port i := rfl
@[simp] theorem setRotation_resultQueue (i : HostId) : (s.setRotation c x).resultQueue i = s.resultQueue i := rfl
@[simp] theorem setRotation_noticeQueue (i : HostId) : (s.setRotation c x).noticeQueue i = s.noticeQueue i := rfl
@[simp] theorem setRotation_channel (i : ChannelId) : (s.setRotation c x).channel i = s.channel i := rfl
@[simp] theorem setRotation_generator (i : GeneratorId) : (s.setRotation c x).generator i = s.generator i := rfl
@[simp] theorem setRotation_watch (i : WatchId) : (s.setRotation c x).watch i = s.watch i := rfl
end

section
variable (x : List Job)
@[simp] theorem setJobs_tbsel : (s.setJobs x).tbsel = s.tbsel := rfl
@[simp] theorem setJobs_adr : (s.setJobs x).adr = s.adr := rfl
@[simp] theorem setJobs_trigSample : (s.setJobs x).trigSample = s.trigSample := rfl
@[simp] theorem setJobs_timebase : (s.setJobs x).timebase = s.timebase := rfl
@[simp] theorem setJobs_jobs : (s.setJobs x).jobs = x := rfl
@[simp] theorem setJobs_ready : (s.setJobs x).ready = s.ready := rfl
@[simp] theorem setJobs_marker : (s.setJobs x).marker = s.marker := rfl
@[simp] theorem setJobs_rotation : (s.setJobs x).rotation = s.rotation := rfl
@[simp] theorem setJobs_converter : (s.setJobs x).converter = s.converter := rfl
@[simp] theorem setJobs_completion : (s.setJobs x).completion = s.completion := rfl
@[simp] theorem setJobs_channels : (s.setJobs x).channels = s.channels := rfl
@[simp] theorem setJobs_generators : (s.setJobs x).generators = s.generators := rfl
@[simp] theorem setJobs_watches : (s.setJobs x).watches = s.watches := rfl
@[simp] theorem setJobs_results : (s.setJobs x).results = s.results := rfl
@[simp] theorem setJobs_notices : (s.setJobs x).notices = s.notices := rfl
@[simp] theorem setJobs_sessions : (s.setJobs x).sessions = s.sessions := rfl
@[simp] theorem setJobs_ports : (s.setJobs x).ports = s.ports := rfl
@[simp] theorem setJobs_pending : (s.setJobs x).pending = s.pending := rfl
@[simp] theorem setJobs_session (i : HostId) : (s.setJobs x).session i = s.session i := rfl
@[simp] theorem setJobs_port (i : HostId) : (s.setJobs x).port i = s.port i := rfl
@[simp] theorem setJobs_resultQueue (i : HostId) : (s.setJobs x).resultQueue i = s.resultQueue i := rfl
@[simp] theorem setJobs_noticeQueue (i : HostId) : (s.setJobs x).noticeQueue i = s.noticeQueue i := rfl
@[simp] theorem setJobs_channel (i : ChannelId) : (s.setJobs x).channel i = s.channel i := rfl
@[simp] theorem setJobs_generator (i : GeneratorId) : (s.setJobs x).generator i = s.generator i := rfl
@[simp] theorem setJobs_watch (i : WatchId) : (s.setJobs x).watch i = s.watch i := rfl
end

section
variable (x : Option Context)
@[simp] theorem setConverter_tbsel : (s.setConverter x).tbsel = s.tbsel := rfl
@[simp] theorem setConverter_adr : (s.setConverter x).adr = s.adr := rfl
@[simp] theorem setConverter_trigSample : (s.setConverter x).trigSample = s.trigSample := rfl
@[simp] theorem setConverter_timebase : (s.setConverter x).timebase = s.timebase := rfl
@[simp] theorem setConverter_jobs : (s.setConverter x).jobs = s.jobs := rfl
@[simp] theorem setConverter_ready : (s.setConverter x).ready = s.ready := rfl
@[simp] theorem setConverter_marker : (s.setConverter x).marker = s.marker := rfl
@[simp] theorem setConverter_rotation : (s.setConverter x).rotation = s.rotation := rfl
@[simp] theorem setConverter_converter : (s.setConverter x).converter = x := rfl
@[simp] theorem setConverter_completion : (s.setConverter x).completion = s.completion := rfl
@[simp] theorem setConverter_channels : (s.setConverter x).channels = s.channels := rfl
@[simp] theorem setConverter_generators : (s.setConverter x).generators = s.generators := rfl
@[simp] theorem setConverter_watches : (s.setConverter x).watches = s.watches := rfl
@[simp] theorem setConverter_results : (s.setConverter x).results = s.results := rfl
@[simp] theorem setConverter_notices : (s.setConverter x).notices = s.notices := rfl
@[simp] theorem setConverter_sessions : (s.setConverter x).sessions = s.sessions := rfl
@[simp] theorem setConverter_ports : (s.setConverter x).ports = s.ports := rfl
@[simp] theorem setConverter_pending : (s.setConverter x).pending = s.pending := rfl
@[simp] theorem setConverter_session (i : HostId) : (s.setConverter x).session i = s.session i := rfl
@[simp] theorem setConverter_port (i : HostId) : (s.setConverter x).port i = s.port i := rfl
@[simp] theorem setConverter_resultQueue (i : HostId) : (s.setConverter x).resultQueue i = s.resultQueue i := rfl
@[simp] theorem setConverter_noticeQueue (i : HostId) : (s.setConverter x).noticeQueue i = s.noticeQueue i := rfl
@[simp] theorem setConverter_channel (i : ChannelId) : (s.setConverter x).channel i = s.channel i := rfl
@[simp] theorem setConverter_generator (i : GeneratorId) : (s.setConverter x).generator i = s.generator i := rfl
@[simp] theorem setConverter_watch (i : WatchId) : (s.setConverter x).watch i = s.watch i := rfl
end

section
variable (x : Option Completion)
@[simp] theorem setCompletion_tbsel : (s.setCompletion x).tbsel = s.tbsel := rfl
@[simp] theorem setCompletion_adr : (s.setCompletion x).adr = s.adr := rfl
@[simp] theorem setCompletion_trigSample : (s.setCompletion x).trigSample = s.trigSample := rfl
@[simp] theorem setCompletion_timebase : (s.setCompletion x).timebase = s.timebase := rfl
@[simp] theorem setCompletion_jobs : (s.setCompletion x).jobs = s.jobs := rfl
@[simp] theorem setCompletion_ready : (s.setCompletion x).ready = s.ready := rfl
@[simp] theorem setCompletion_marker : (s.setCompletion x).marker = s.marker := rfl
@[simp] theorem setCompletion_rotation : (s.setCompletion x).rotation = s.rotation := rfl
@[simp] theorem setCompletion_converter : (s.setCompletion x).converter = s.converter := rfl
@[simp] theorem setCompletion_completion : (s.setCompletion x).completion = x := rfl
@[simp] theorem setCompletion_channels : (s.setCompletion x).channels = s.channels := rfl
@[simp] theorem setCompletion_generators : (s.setCompletion x).generators = s.generators := rfl
@[simp] theorem setCompletion_watches : (s.setCompletion x).watches = s.watches := rfl
@[simp] theorem setCompletion_results : (s.setCompletion x).results = s.results := rfl
@[simp] theorem setCompletion_notices : (s.setCompletion x).notices = s.notices := rfl
@[simp] theorem setCompletion_sessions : (s.setCompletion x).sessions = s.sessions := rfl
@[simp] theorem setCompletion_ports : (s.setCompletion x).ports = s.ports := rfl
@[simp] theorem setCompletion_pending : (s.setCompletion x).pending = s.pending := rfl
@[simp] theorem setCompletion_session (i : HostId) : (s.setCompletion x).session i = s.session i := rfl
@[simp] theorem setCompletion_port (i : HostId) : (s.setCompletion x).port i = s.port i := rfl
@[simp] theorem setCompletion_resultQueue (i : HostId) : (s.setCompletion x).resultQueue i = s.resultQueue i := rfl
@[simp] theorem setCompletion_noticeQueue (i : HostId) : (s.setCompletion x).noticeQueue i = s.noticeQueue i := rfl
@[simp] theorem setCompletion_channel (i : ChannelId) : (s.setCompletion x).channel i = s.channel i := rfl
@[simp] theorem setCompletion_generator (i : GeneratorId) : (s.setCompletion x).generator i = s.generator i := rfl
@[simp] theorem setCompletion_watch (i : WatchId) : (s.setCompletion x).watch i = s.watch i := rfl
end

end State
end Sys2Proof.Machine
end

