-- ==== Sys2Proof/Laws/Frames.lean ====
section
/-! SUPPORT. What the scheduler and the delivery of firings leave alone, stated once as a frame that
composes: every operation from a post to a whole delivery or a selection meets it. -/

namespace Sys2Proof.Machine

/-- `t` differs from `s` at most in the job records (their names and order kept), the Ready Lists, the
markers, the rotation pointers, the converter, the reservation accounts and the notices. -/
structure State.EngineFrame (s t : State) : Prop where
  rest : t = { s with
    jobs := t.jobs, ready := t.ready, marker := t.marker, rotation := t.rotation,
    converter := t.converter, results := t.results, notices := t.notices }
  ids : t.jobs.map Job.id = s.jobs.map Job.id
  queue : ∀ h, t.resultQueue h =
    { s.resultQueue h with accounts := (t.resultQueue h).accounts }

namespace State.EngineFrame

variable {s t u : State}

theorem refl (s : State) : s.EngineFrame s := ⟨rfl, rfl, fun _ => rfl⟩

theorem trans (a : s.EngineFrame t) (b : t.EngineFrame u) : s.EngineFrame u where
  rest := by rw [b.rest, a.rest]
  ids := b.ids.trans a.ids
  queue h := by rw [b.queue h, a.queue h]

variable (f : s.EngineFrame t)
include f

theorem tbsel : t.tbsel = s.tbsel := by rw [f.rest]
theorem adr : t.adr = s.adr := by rw [f.rest]
theorem trigSample : t.trigSample = s.trigSample := by rw [f.rest]
theorem timebase : t.timebase = s.timebase := by rw [f.rest]
theorem channels : t.channels = s.channels := by rw [f.rest]
theorem generators : t.generators = s.generators := by rw [f.rest]
theorem watches : t.watches = s.watches := by rw [f.rest]
theorem sessions : t.sessions = s.sessions := by rw [f.rest]
theorem ports : t.ports = s.ports := by rw [f.rest]
theorem completion : t.completion = s.completion := by rw [f.rest]
theorem pending : t.pending = s.pending := by rw [f.rest]
theorem session (h : HostId) : t.session h = s.session h := congrArg (·.get h) f.sessions
theorem port (h : HostId) : t.port h = s.port h := congrArg (·.get h) f.ports
theorem channel (c : ChannelId) : t.channel c = s.channel c := congrArg (·.get c) f.channels
theorem generator (g : GeneratorId) : t.generator g = s.generator g := congrArg (·.get g) f.generators
theorem watch (w : WatchId) : t.watch w = s.watch w := congrArg (·.get w) f.watches
theorem records (h : HostId) : (t.resultQueue h).records = (s.resultQueue h).records := by
  rw [f.queue h]
theorem discarded (h : HostId) : (t.resultQueue h).discarded = (s.resultQueue h).discarded := by
  rw [f.queue h]
theorem staleMark (h : HostId) : (t.resultQueue h).staleMark = (s.resultQueue h).staleMark := by
  rw [f.queue h]
theorem jobs_length : t.jobs.length = s.jobs.length := by
  simpa using congrArg List.length f.ids

end State.EngineFrame

namespace State

variable (s : State)

/-! ### The small updates -/

theorem updateJob_engine (id : JobId) {f : Job → Job} (hf : ∀ j, (f j).id = j.id) :
    s.EngineFrame (s.updateJob id f) where
  rest := rfl
  ids := by
    simp only [updateJob, setJobs_jobs, List.map_map]
    congr 1
    funext j
    simp only [Function.comp_apply]
    split
    · exact hf j
    · rfl
  queue _ := rfl

theorem setReady_engine (c : JobClass) (ids : List JobId) : s.EngineFrame (s.setReady c ids) :=
  ⟨rfl, rfl, fun _ => rfl⟩

theorem setMarker_engine (c : JobClass) (m : Option JobId) : s.EngineFrame (s.setMarker c m) :=
  ⟨rfl, rfl, fun _ => rfl⟩

theorem setRotation_engine (c : JobClass) (h : HostId) : s.EngineFrame (s.setRotation c h) :=
  ⟨rfl, rfl, fun _ => rfl⟩

theorem setConverter_engine (c : Option Context) : s.EngineFrame (s.setConverter c) :=
  ⟨rfl, rfl, fun _ => rfl⟩

theorem abort_engine : s.EngineFrame s.abort := s.setConverter_engine none

theorem setNoticeQueue_engine (h : HostId) (q : NoticeQueue) : s.EngineFrame (s.setNoticeQueue h q) :=
  ⟨rfl, rfl, fun _ => rfl⟩

theorem setAccount_engine (h : HostId) (c : JobClass) (a : Option Nat) :
    s.EngineFrame (s.setAccount h c a) where
  rest := rfl
  ids := rfl
  queue g := by
    unfold setAccount
    rw [setResultQueue_resultQueue]
    split
    · next e => subst e; rfl
    · rfl

theorem post_engine (h : HostId) (kind : NoticeKind) (subject : Byte) (detail : Nat) :
    s.EngineFrame (s.post h kind subject detail) := by
  unfold post
  split
  · exact s.setNoticeQueue_engine ..
  · exact .refl s

theorem makeReady_engine (id : JobId) (c : JobClass) : s.EngineFrame (s.makeReady id c) :=
  (s.updateJob_engine id (by intro; rfl)).trans (setReady_engine ..)

/-! ### The scheduler -/

theorem startConversion_engine (id : JobId) : s.EngineFrame (s.startConversion id) := by
  unfold startConversion
  split
  · exact .refl s
  · split
    · exact .refl s
    · exact s.setConverter_engine _

theorem resume_engine (id : JobId) : s.EngineFrame (s.resume id) :=
  (s.updateJob_engine id (by intro; rfl)).trans (startConversion_engine ..)

theorem reserve_engine (j : Job) : s.EngineFrame (s.reserve j) := by
  unfold reserve
  split
  · exact s.setAccount_engine ..
  · exact .refl s

theorem grant_engine (j : Job) : s.EngineFrame (s.grant j) :=
  (s.setReady_engine ..).trans <| (setMarker_engine ..).trans <| (setRotation_engine ..).trans <|
    (reserve_engine ..).trans <| (updateJob_engine _ _ (by intro; rfl)).trans (startConversion_engine ..)

theorem yield_engine (c : JobClass) : s.EngineFrame (s.setJobs (s.jobs.map (Job.yieldTo c))) where
  rest := rfl
  ids := by
    simp only [setJobs_jobs, List.map_map]
    congr 1
    funext j
    simp only [Function.comp_apply, Job.yieldTo]
    split <;> rfl
  queue _ := rfl

theorem serve_engine (c : JobClass) : s.EngineFrame (s.serve c) := by
  refine (s.yield_engine c).trans ?_
  simp only [serve]
  split
  · exact resume_engine ..
  · split
    · exact grant_engine ..
    · exact .refl _

theorem select_engine : s.EngineFrame s.select := by
  unfold select
  split
  · exact .refl s
  · split
    · exact s.serve_engine _
    · exact .refl s

theorem preempt_engine : s.EngineFrame s.preempt := by
  unfold preempt
  split
  · exact .refl s
  · exact (s.updateJob_engine _ (by intro; rfl)).trans (abort_engine _)

theorem schedule_engine : s.EngineFrame s.schedule := by
  unfold schedule
  split
  · exact s.preempt_engine.trans (select_engine _)
  · exact s.select_engine

/-! ### Arrivals and deliveries -/

theorem overrun_engine (j : Job) : s.EngineFrame (s.overrun j) := by
  simp only [overrun]
  split
  · exact s.updateJob_engine _ (by intro; rfl)
  · exact (s.post_engine ..).trans (updateJob_engine _ _ (by intro; rfl))

theorem acceptRestart_engine (j : Job) : s.EngineFrame (s.acceptRestart j) := by
  simp only [acceptRestart]
  split
  · exact s.abort_engine.trans (updateJob_engine _ _ (by intro; rfl))
  · exact s.updateJob_engine _ (by intro; rfl)

theorem restartPass_engine (j : Job) : s.EngineFrame (s.restartPass j) := by
  unfold restartPass
  split
  · exact s.overrun_engine j
  · split
    · exact s.acceptRestart_engine j
    · split
      · exact (s.setAccount_engine ..).trans (acceptRestart_engine ..)
      · exact s.overrun_engine j

theorem holdArrival_engine (j : Job) : s.EngineFrame (s.holdArrival j) := by
  unfold holdArrival
  split
  · exact s.overrun_engine j
  · exact s.updateJob_engine _ (by intro; rfl)

theorem arrival_engine (id : JobId) : s.EngineFrame (s.arrival id) := by
  unfold arrival
  split
  · exact .refl s
  · split
    · exact s.makeReady_engine ..
    · exact s.overrun_engine _
    · exact s.holdArrival_engine _
    · exact s.overrun_engine _
    · exact s.restartPass_engine _

theorem foldl_engine {α : Type} {f : State → α → State} (hf : ∀ s a, EngineFrame s (f s a))
    (l : List α) (s : State) : s.EngineFrame (l.foldl f s) := by
  induction l generalizing s with
  | nil => exact .refl s
  | cons a l ih => exact (hf s a).trans (ih _)

theorem deliver_engine (hits : Source → Bool) : s.EngineFrame (s.deliver hits) :=
  foldl_engine (fun s id => s.arrival_engine id) ..

/-! ### Teardown -/

theorem announceLeft_engine (h : HostId) (detail : Nat) : s.EngineFrame (s.announceLeft h detail) :=
  foldl_engine (fun s _ => s.post_engine ..) ..

end State
end Sys2Proof.Machine
end

