-- ==== Sys2Proof/Laws/Ports.lean ====
section
/-! SUPPORT. What a frame end, the checks that the commands share, and the judgement of a command row
do: one lemma for each, for use in place of unfolding. -/

namespace Sys2Proof.Machine
namespace State

variable (s : State) (h : HostId)

theorem leaseTicks_eq (o : HostOptions) : o.leaseTicks = leaseOf o.leaseLength := rfl

theorem renewLease_rest (o : CmdOutcome) :
    s.renewLease h o = { s with sessions := (s.renewLease h o).sessions } := by
  unfold renewLease
  split <;> rfl

/-- All that the end of a frame does (R147, R159). -/
theorem finishFrame_ends (o : CmdOutcome) : s.EndsFrame (s.finishFrame h o) h o := by
  constructor
  · simp [finishFrame, idlePort, recordOutcome, renewLease, restartLease]; split <;> simp
  · intro g hg
    simp [finishFrame, idlePort, recordOutcome, renewLease, restartLease]
    split <;> simp [setPort_port, hg]
  · simp only [finishFrame, idlePort, recordOutcome, renewLease, restartLease, CmdOutcome.renews,
      setPort_session, leaseTicks_eq]
    by_cases h1 : o = .frameError <;> by_cases h2 : o = .unknownCommand <;>
      by_cases h3 : (s.session h).state = .attached <;> simp [h1, h2, h3]
  · intro g hg
    simp [finishFrame, idlePort, recordOutcome, renewLease, restartLease]
    split <;> simp [setSession_session, hg]
  · unfold finishFrame
    rw [renewLease_rest]
    rfl

/-- All that the judgement of a read-type command does (R164, R169). -/
theorem fixReply_fixes (c : Command) (params : List Byte) (r : CmdOutcome × ReplyBody) :
    s.FixesReply (s.fixReply h c params r) h c params r.1 r.2 := by
  constructor
  · by_cases hh : h = 2 <;> simp [fixReply, Port.judged, isSpi, hh]
  · intro g hg
    simp [fixReply, setPort_port, hg]
  · rfl

theorem runWrite_awaited {c : Command} {judge : State → CmdOutcome × State}
    (ha : (s.port h).awaits c = true) :
    s.runWrite h c judge = (judge s).2.finishFrame h (judge s).1 := if_pos ha

theorem runWrite_not_awaited {c : Command} {judge : State → CmdOutcome × State}
    (ha : (s.port h).awaits c = false) : s.runWrite h c judge = s := if_neg (by simp [ha])

theorem runRead_awaited {c : Command} {params : List Byte} {judge : State → CmdOutcome × ReplyBody}
    (ha : (s.port h).awaits c = true) :
    s.runRead h c params judge = s.fixReply h c params (judge s) := if_pos ha

theorem runRead_not_awaited {c : Command} {params : List Byte} {judge : State → CmdOutcome × ReplyBody}
    (ha : (s.port h).awaits c = false) : s.runRead h c params judge = s := if_neg (by simp [ha])

/-- An awaited write-type row ends its frame on the state that its judgement leaves. -/
theorem runWrite_ends {c : Command} {judge : State → CmdOutcome × State}
    (ha : (s.port h).awaits c = true) :
    (judge s).2.EndsFrame (s.runWrite h c judge) h (judge s).1 := by
  rw [runWrite_awaited s h ha]; exact finishFrame_ends ..

/-- An awaited read-type row fixes its reply. -/
theorem runRead_fixes {c : Command} {params : List Byte} {judge : State → CmdOutcome × ReplyBody}
    (ha : (s.port h).awaits c = true) :
    s.FixesReply (s.runRead h c params judge) h c params (judge s).1 (judge s).2 := by
  rw [runRead_awaited s h ha]; exact fixReply_fixes ..

/-- An idle port awaits every command. -/
theorem awaits_of_idle {c : Command} (hp : (s.port h).phase = .idle) : (s.port h).awaits c = true := by
  simp [Port.awaits, hp]

/-! ### The shared checks (R61, R93, R113, R141, R146) -/

theorem sessionRefusal_attached (ha : (s.session h).state = .attached) : s.sessionRefusal h = none := by
  simp [sessionRefusal, ha]

theorem sessionRefusal_not_attached (ha : (s.session h).state ≠ .attached) :
    s.sessionRefusal h = some (if (s.session h).state = .lapsed then .lapsed else .notAttached) := by
  unfold sessionRefusal
  cases hs : (s.session h).state <;> simp_all

variable {α : Type} {params : Option α} {act : α → CmdOutcome × State}

theorem judge_wrong_length : s.judge h false params act = (.frameError, s) := rfl

theorem judge_not_attached {fits : Bool} (hf : fits = true) (ha : (s.session h).state ≠ .attached) :
    s.judge h fits params act =
      (if (s.session h).state = .lapsed then .lapsed else .notAttached, s) := by
  simp [judge, hf, sessionRefusal_not_attached s h ha]

theorem judge_bad_param {fits : Bool} (hf : fits = true) (ha : (s.session h).state = .attached) :
    s.judge h fits none act = (.badParam, s) := by
  simp [judge, hf, sessionRefusal_attached s h ha]

theorem judge_accepts {fits : Bool} {a : α} (hf : fits = true) (ha : (s.session h).state = .attached) :
    s.judge h fits (some a) act = act a := by
  simp [judge, hf, sessionRefusal_attached s h ha]

/-- Every outcome of the shared checks: a refusal leaves the state as it was. -/
theorem judge_cases (fits : Bool) (params : Option α) (act : α → CmdOutcome × State) :
    (s.judge h fits params act).2 = s ∨
      ∃ a, fits = true ∧ (s.session h).state = .attached ∧ params = some a ∧
        s.judge h fits params act = act a := by
  by_cases hf : fits = true
  · by_cases ha : (s.session h).state = .attached
    · cases params with
      | none => exact .inl (by rw [judge_bad_param s h hf ha])
      | some a => exact .inr ⟨a, hf, ha, rfl, judge_accepts s h hf ha⟩
    · exact .inl (by rw [judge_not_attached s h hf ha])
  · exact .inl (by rw [Bool.not_eq_true] at hf; rw [hf, judge_wrong_length])

variable {reply : α → CmdOutcome × ReplyBody}

theorem answer_not_attached (ha : (s.session h).state ≠ .attached) :
    s.answer h params reply =
      refusalReply (if (s.session h).state = .lapsed then .lapsed else .notAttached) := by
  simp [answer, sessionRefusal_not_attached s h ha]

theorem answer_bad_param (ha : (s.session h).state = .attached) :
    s.answer h none reply = refusalReply .badParam := by
  simp [answer, sessionRefusal_attached s h ha]

theorem answer_accepts {a : α} (ha : (s.session h).state = .attached) :
    s.answer h (some a) reply = reply a := by
  simp [answer, sessionRefusal_attached s h ha]

/-! ### Forms of one parameter byte (R178) -/

theorem field_singleton (b : Byte) : field [b] 0 1 = b.toNat := by
  simp [field, beNat]

theorem below_val {n : Nat} (i : Fin n) : below n i.val = some i := by
  simp [below]

theorem channelParam_byteOf (c : ChannelId) : channelParam [byteOf c.val] = some c := by
  rw [channelParam, field_singleton, byteOf_toNat (by omega), below_val]

theorem generatorParam_byteOf (g : GeneratorId) : generatorParam [byteOf g.val] = some g := by
  rw [generatorParam, field_singleton, byteOf_toNat (by omega), below_val]

theorem watchParam_byteOf (w : WatchId) : watchParam [byteOf w.val] = some w := by
  rw [watchParam, field_singleton, byteOf_toNat (by omega), below_val]

theorem tagParam_singleton {b : Byte} (hb : b ≠ 0) : tagParam [b] = some b := by
  have : b.toNat ≠ 0 := fun h => hb (BitVec.eq_of_toNat_eq (by simpa using h))
  rw [tagParam, field_singleton, tagField, if_neg this]
  simp [byteOf]

theorem lengthOk_of_paramLength {c : Command} {params : List Byte}
    (hc : requiredLength c params = some c.paramLength) :
    lengthOk c params = (c.paramLength == params.length) := by
  simp [lengthOk, hc]

end State
end Sys2Proof.Machine
end

