-- ==== Sys2Proof/Laws/Scheduler.lean ====
section
/-! SUPPORT. The Job Table's lookups and the scheduler: what an update of a job does to a lookup, and
every outcome of a choice of class, a choice of job, a selection and a scheduling occasion. -/

namespace Sys2Proof.Machine
namespace State

variable (s : State)

/-! ### Lookups (R2) -/

theorem find_map_id {l : List Job} {id : JobId} {f : Job → Job} (hf : ∀ k, (f k).id = k.id) :
    (l.map f).find? (fun k => k.id == id) = (l.find? fun k => k.id == id).map f := by
  induction l with
  | nil => rfl
  | cons a l ih =>
    simp only [List.map_cons, List.find?_cons, hf]
    split <;> simp [ih]

theorem findJob_id {id : JobId} {j : Job} (h : s.findJob id = some j) : j.id = id := by
  simpa using List.find?_some h

theorem findJob_mem {id : JobId} {j : Job} (h : s.findJob id = some j) : j ∈ s.jobs :=
  List.mem_of_find?_eq_some h

theorem findJob_none {id : JobId} : s.findJob id = none ↔ id ∉ s.jobs.map Job.id := by
  simp [findJob]

/-- Under distinct names, the job of a name is the one job of the table that carries it. -/
theorem findJob_of_mem (hn : (s.jobs.map Job.id).Nodup) {j : Job} (hj : j ∈ s.jobs) :
    s.findJob j.id = some j := by
  unfold findJob
  induction hl : s.jobs generalizing s with
  | nil => simp [hl] at hj
  | cons a l ih =>
    rw [hl] at hn hj
    simp only [List.map_cons, List.nodup_cons] at hn
    rw [List.find?_cons]
    rcases List.mem_cons.mp hj with rfl | hj
    · simp
    · have hne : (a.id == j.id) = false := by
        rw [beq_eq_false_iff_ne]
        exact fun he => hn.1 (he ▸ List.mem_map_of_mem hj)
      rw [hne]
      exact ih { s with jobs := l } hn.2 hj rfl

theorem findJob_updateJob_self {id : JobId} {f : Job → Job} (hf : ∀ k, (f k).id = k.id) :
    (s.updateJob id f).findJob id = (s.findJob id).map f := by
  simp only [findJob, updateJob, setJobs_jobs]
  rw [find_map_id (by intro k; split <;> simp [hf])]
  cases h : s.jobs.find? (fun k => k.id == id) with
  | none => rfl
  | some j => simp [s.findJob_id h]

theorem findJob_updateJob_ne {id other : JobId} {f : Job → Job} (hf : ∀ k, (f k).id = k.id)
    (hne : other ≠ id) : (s.updateJob id f).findJob other = s.findJob other := by
  simp only [findJob, updateJob, setJobs_jobs]
  rw [find_map_id (by intro k; split <;> simp [hf])]
  cases h : s.jobs.find? (fun k => k.id == other) with
  | none => rfl
  | some j => simp [s.findJob_id h, hne]

/-! ### Choices (R37, R39) -/

theorem chosenClass_some {c : JobClass} (h : s.chosenClass = some c) : s.qualifies c = true :=
  List.find?_some h

theorem chosenClass_none : s.chosenClass = none ↔ ∀ c, s.qualifies c = false := by
  simp only [chosenClass, allClasses, List.find?_eq_none]
  constructor
  · intro h c
    simpa using h c (by cases c <;> decide)
  · intro h c _
    simp [h c]

theorem mem_eligibleJobs {c : JobClass} {j : Job} (h : j ∈ s.eligibleJobs c) :
    j.id ∈ s.ready.get c ∧ s.findJob j.id = some j ∧ s.eligible j = true := by
  simp only [eligibleJobs, List.mem_filter, List.mem_filterMap] at h
  obtain ⟨⟨id, hid, hf⟩, he⟩ := h
  have := s.findJob_id hf
  subst this
  exact ⟨hid, hf, he⟩

theorem chosenJob_mem {c : JobClass} {j : Job} (h : s.chosenJob c = some j) : j ∈ s.eligibleJobs c := by
  obtain ⟨_, _, hf⟩ := List.exists_of_findSome?_eq_some h
  exact List.mem_of_find?_eq_some hf

/-! ### Jobs that yield at a completion boundary (R20, R41) -/

theorem yieldTo_id (c : JobClass) (j : Job) : (j.yieldTo c).id = j.id := by
  unfold Job.yieldTo
  split <;> rfl

theorem findJob_yieldTo (c : JobClass) (id : JobId) :
    (s.setJobs (s.jobs.map (Job.yieldTo c))).findJob id = (s.findJob id).map (Job.yieldTo c) :=
  find_map_id (yieldTo_id c)

/-- A RUNNING job that yields was in no Ready List's choice: the eligible jobs stay as they were. -/
theorem eligibleJobs_yieldTo (c d : JobClass) :
    (s.setJobs (s.jobs.map (Job.yieldTo c))).eligibleJobs d = s.eligibleJobs d := by
  simp only [eligibleJobs, setJobs_ready, funext (s.findJob_yieldTo c)]
  induction s.ready.get d with
  | nil => rfl
  | cons a l ih =>
    simp only [List.filterMap_cons]
    cases s.findJob a with
    | none => exact ih
    | some k =>
      simp only [Option.map_some, List.filter_cons, ih]
      by_cases hr : k.state = .running ∧ k.cls ≠ c
      · simp [eligible, Job.yieldTo, hr]
      · rw [show k.yieldTo c = k from if_neg hr]
        rfl

/-! ### Selections and occasions (R35, R44) -/

theorem select_busy {ctx : Context} (h : s.converter = some ctx) : s.select = s := by
  simp [select, h]

theorem select_none (h : s.chosenClass = none) : s.select = s := by
  simp [select, h]

/-- While a completion's own selection is still to come, no selection is made (R57). -/
theorem select_waits (h : s.selectionWaits = true) : s.select = s := by
  simp [select, h]

theorem select_serves {c : JobClass} (hw : s.selectionWaits = false) (hi : s.converter = none)
    (hc : s.chosenClass = some c) : s.select = s.serve c := by
  simp [select, hw, hi, hc]

/-- Every outcome of a selection. -/
theorem select_cases :
    s.select = s ∨ ∃ c, s.selectionWaits = false ∧ s.converter = none ∧ s.chosenClass = some c ∧
      s.select = s.serve c := by
  cases hw : s.selectionWaits with
  | true => exact .inl (s.select_waits hw)
  | false =>
    cases hi : s.converter with
    | some ctx => exact .inl (s.select_busy hi)
    | none =>
      cases hc : s.chosenClass with
      | none => exact .inl (s.select_none hc)
      | some c => exact .inr ⟨c, rfl, rfl, rfl, s.select_serves hw hi hc⟩

theorem selectionWaits_none (h : s.completion = none) : s.selectionWaits = false := by
  simp [selectionWaits, h]

/-- Every outcome of the service of a class. -/
theorem serve_cases (c : JobClass) :
    let y := s.setJobs (s.jobs.map (Job.yieldTo c))
    (∃ id, s.marker.get c = some id ∧ s.serve c = y.resume id) ∨
    (∃ j, s.marker.get c = none ∧ s.chosenJob c = some j ∧ s.serve c = y.grant j) ∨
    (s.marker.get c = none ∧ s.chosenJob c = none ∧ s.serve c = y) := by
  intro y
  have hj : y.chosenJob c = s.chosenJob c := by
    simp only [chosenJob, y, eligibleJobs_yieldTo, setJobs_rotation]
  have hs : s.serve c =
      match s.marker.get c with
      | some id => y.resume id
      | none => match y.chosenJob c with
        | some j => y.grant j
        | none => y := rfl
  cases hm : s.marker.get c with
  | some id => exact .inl ⟨id, rfl, by rw [hs, hm]⟩
  | none =>
    cases hc : s.chosenJob c with
    | some j => exact .inr (.inl ⟨j, rfl, rfl, by rw [hs, hm, hj, hc]⟩)
    | none => exact .inr (.inr ⟨rfl, rfl, by rw [hs, hm, hj, hc]⟩)

theorem urgentWaits_idle (h : s.converter = none) : s.urgentWaits = false := by
  simp [urgentWaits, h]

/-- Without the preemption condition an occasion is a selection. -/
theorem schedule_quiet (h : s.urgentWaits = false) : s.schedule = s.select := by
  simp [schedule, h]

theorem schedule_preempts (h : s.urgentWaits = true) : s.schedule = s.preempt.select := by
  simp [schedule, h]

end State
end Sys2Proof.Machine
end

