-- ==== Sys2Proof/Laws/Queues.lean ====
section
/-! SUPPORT. The notice queue and the result queue: their capacities, every placement of an offered
record, and the frames of the shares of a completion and of a firing. -/

namespace Sys2Proof.Machine

/-! ### Notice queues (R128, R130) -/

/-- A notice queue within its places stays within them, and its lost count saturates. -/
theorem NoticeQueue.take_bounds (q : NoticeQueue) (n : Notice) (hq : q.notices.length ≤ 16) :
    (q.take n).notices.length ≤ 16 ∧ (q.take n).lost ≤ 255 := by
  simp only [NoticeQueue.take, Config.noticePlaces]
  by_cases h0 : q.lost = 0
  · by_cases h1 : 1 ≤ 16 - q.notices.length <;> simp [h0, h1] <;> omega
  · by_cases h2 : 2 ≤ 16 - q.notices.length <;> simp [h0, h2] <;> omega

/-- A post leaves at the head of the queue all that stood in it. -/
theorem NoticeQueue.take_prefix (q : NoticeQueue) (n : Notice) : q.notices <+: (q.take n).notices := by
  simp only [NoticeQueue.take, Config.noticePlaces]
  by_cases h0 : q.lost = 0
  · by_cases h1 : 1 ≤ 16 - q.notices.length <;> simp [h0, h1]
  · by_cases h2 : 2 ≤ 16 - q.notices.length <;> simp [h0, h2]

/-! ### Result queues (R72 to R76) -/

/-- Every placement of an offered record. -/
theorem ResultQueue.placement_cases (q : ResultQueue) (c : JobClass) :
    (∃ left, q.accounts.get c = some (left + 1) ∧ q.placement c = .reserved left) ∨
    ((∀ left, q.accounts.get c ≠ some (left + 1)) ∧ 0 < q.freePlaces ∧ q.placement c = .free) ∨
    ((∀ left, q.accounts.get c ≠ some (left + 1)) ∧ q.freePlaces = 0 ∧ q.placement c = .dropped) := by
  unfold ResultQueue.placement
  rcases h : q.accounts.get c with _ | _ | left
  · by_cases hf : 0 < q.freePlaces
    · exact .inr (.inl ⟨by simp, hf, by simp [hf]⟩)
    · exact .inr (.inr ⟨by simp, by omega, by simp [hf]⟩)
  · by_cases hf : 0 < q.freePlaces
    · exact .inr (.inl ⟨by simp, hf, by simp [hf]⟩)
    · exact .inr (.inr ⟨by simp, by omega, by simp [hf]⟩)
  · exact .inl ⟨left, rfl, rfl⟩

/-- The reserved places after one account has been replaced. -/
theorem ResultQueue.reserved_put (q : ResultQueue) (c : JobClass) (a : Option Nat) :
    ({ q with accounts := q.accounts.put c a } : ResultQueue).reserved + (q.accounts.get c).getD 0 =
      q.reserved + a.getD 0 := by
  cases c <;> simp [ResultQueue.reserved, PerClass.put, PerClass.get] <;> omega

namespace State

variable (s : State)

/-- The test of a head changes the stale mark alone (R83). -/
theorem testStale_resultQueue (h : HostId) :
    (s.testStale h).resultQueue h =
      { s.resultQueue h with staleMark := s.headReached h (s.resultQueue h).records } := by
  simp [testStale]

/-- A record that joins stands at the tail; one that becomes the head is tested (R71, R83). -/
theorem appendRecord_resultQueue (h : HostId) (r : ResultRecord) :
    (s.appendRecord h r).resultQueue h =
      { s.resultQueue h with
        records := (s.resultQueue h).records ++ [r]
        staleMark := if (s.resultQueue h).records = [] then s.headReached h [r]
          else (s.resultQueue h).staleMark } := by
  simp only [appendRecord, List.isEmpty_iff]
  split
  · next hq =>
    rw [testStale_resultQueue]
    simp [hq, headReached, age]
    rfl
  · simp

/-- A join reaches the one queue and nothing else. -/
theorem appendRecord_rest (h : HostId) (r : ResultRecord) :
    s.appendRecord h r = { s with results := (s.appendRecord h r).results } ∧
      ∀ g, g ≠ h → (s.appendRecord h r).resultQueue g = s.resultQueue g := by
  simp only [appendRecord]
  split
  · refine ⟨rfl, fun g hg => ?_⟩
    simp [testStale, setResultQueue_resultQueue, hg]
  · refine ⟨rfl, fun g hg => ?_⟩
    simp [setResultQueue_resultQueue, hg]

/-- An offer changes the owner's result queue and the job's counts; the names in the table stay. -/
theorem offer_rest (id : JobId) (c : JobClass) (r : ResultRecord) :
    s.offer id c r =
        { s with jobs := (s.offer id c r).jobs, results := (s.offer id c r).results } ∧
      (s.offer id c r).jobs.map Job.id = s.jobs.map Job.id ∧
      ∀ g, g ≠ id.owner → (s.offer id c r).resultQueue g = s.resultQueue g := by
  have names : ∀ (u : State) (f : Job → Job), (∀ j, (f j).id = j.id) →
      (u.updateJob id f).jobs.map Job.id = u.jobs.map Job.id := fun u f hf =>
    (u.updateJob_engine id hf).ids
  unfold offer
  rcases (s.resultQueue id.owner).placement_cases c with ⟨left, -, hp⟩ | ⟨-, -, hp⟩ | ⟨-, -, hp⟩ <;>
    simp only [hp]
  · have ha := (s.setAccount id.owner c (some left)).appendRecord_rest id.owner r.sealed
    refine ⟨?_, ?_, fun g hg => ?_⟩
    · rw [ha.1]; rfl
    · rw [names _ _ (by intro; rfl), ha.1]; rfl
    · have e := ha.2 g hg
      rw [setAccount, setResultQueue_resultQueue_ne s _ _ hg] at e
      exact e
  · have ha := s.appendRecord_rest id.owner r.sealed
    refine ⟨?_, ?_, fun g hg => ?_⟩
    · rw [ha.1]; rfl
    · rw [names _ _ (by intro; rfl), ha.1]
    · exact ha.2 g hg
  · refine ⟨rfl, ?_, fun g hg => ?_⟩
    · rw [names _ _ (by intro; rfl)]; rfl
    · exact setResultQueue_resultQueue_ne s _ _ hg

theorem recordLeaves_nil {h : HostId} (hq : (s.resultQueue h).records = []) : s.recordLeaves h = s := by
  simp [recordLeaves, hq]

theorem recordLeaves_cons {h : HostId} {r : ResultRecord} {rest : List ResultRecord}
    (hq : (s.resultQueue h).records = r :: rest) :
    s.recordLeaves h =
      ((s.setResultQueue h { s.resultQueue h with records := rest }).testStale h).schedule := by
  simp [recordLeaves, hq]

/-! ### Firings and the watch unit's share -/

/-- An evaluation changes the watch's state, and beyond it only what a post and a delivery change
(R118, R119). -/
theorem evaluate_engine (w : WatchId) (owner : HostId) (v : Code) :
    (s.setWatch w { s.watch w with state := (s.watch w).next v }).EngineFrame (s.evaluate w owner v) := by
  simp only [evaluate]
  split
  · exact (post_engine ..).trans (deliver_engine ..)
  · split
    · exact post_engine ..
    · exact .refl _

/-- The position between the Job Table's share and the selection changes the one job's state alone
(R36). -/
theorem awaitSelection_engine (id : JobId) : s.EngineFrame (s.updateJob id Job.awaitSelection) :=
  s.updateJob_engine id fun j => by unfold Job.awaitSelection; split <;> rfl

/-- In that position the job is never found RUNNING (R36, R110). -/
theorem awaitSelection_not_running {id : JobId} {j : Job}
    (h : (s.updateJob id Job.awaitSelection).findJob id = some j) : j.state ≠ .running := by
  rw [findJob_updateJob_self _ fun k => by unfold Job.awaitSelection; split <;> rfl] at h
  obtain ⟨k, -, rfl⟩ := Option.map_eq_some_iff.mp h
  unfold Job.awaitSelection
  split <;> simp_all

/-- Every outcome of a RESTART arrival at a job in a pass (R80, R109, R110). -/
theorem restartPass_cases (j : Job) :
    (j.state = .running ∧ s.executes j.id = false ∧ s.restartPass j = s.overrun j) ∨
    ((j.state = .running → s.executes j.id = true) ∧
      ((s.account j.id.owner j.cls = none ∧ s.restartPass j = s.acceptRestart j) ∨
       ∃ held, s.account j.id.owner j.cls = some held ∧
        s.restartPass j =
          if j.produced ≤ (s.resultQueue j.id.owner).freePlaces then
            (s.setAccount j.id.owner j.cls (some (held + j.produced))).acceptRestart j
          else s.overrun j)) := by
  unfold restartPass
  by_cases h : j.state = .running ∧ ¬ s.executes j.id = true
  · exact .inl ⟨h.1, by simpa using h.2, by rw [if_pos h]⟩
  · refine .inr ⟨fun hr => by simpa [hr] using h, ?_⟩
    rw [if_neg h]
    cases s.account j.id.owner j.cls with
    | none => exact .inl ⟨rfl, rfl⟩
    | some held => exact .inr ⟨held, rfl, rfl⟩

/-- What an evaluation leaves in a watch: its own watch's next state, and every other watch as it was
(R118, R119). -/
theorem evaluate_watch (w x : WatchId) (owner : HostId) (v : Code) :
    (s.evaluate w owner v).watch x =
      if x = w then { s.watch w with state := (s.watch w).next v } else s.watch x := by
  rw [(s.evaluate_engine w owner v).watch, setWatch_watch]

/-- The channel share changes the report's channel alone, and only for a CONVERT (R57, R66). -/
theorem channelShare_channels (r : Report) :
    s.channelShare r = { s with channels := (s.channelShare r).channels } ∧
      ∀ c, (s.channelShare r).channel c =
        if r.kind = .convert ∧ c = r.channel then (s.channel c).update r else s.channel c := by
  unfold channelShare
  cases r.kind
  · refine ⟨rfl, fun c => ?_⟩
    simp only [setChannel_channel]
    split <;> simp_all
  · exact ⟨rfl, fun c => by simp⟩

/-- A firing changes its generator, and beyond it only what a post and a delivery change (R100,
R101). -/
theorem fireGenerator_engine (g : GeneratorId) :
    let x := { s.generator g with firings := (s.generator g).firings + 1 }
    (s.setGenerator g (if x.endsAt x.firings then x.stopped else x.nextInterval)).EngineFrame
      (s.fireGenerator g) := by
  intro x
  have hd := (s.setGenerator g x).deliver_engine (generatorHits g)
  have hx : ((s.setGenerator g x).deliver (generatorHits g)).generator g = x := by
    rw [hd.generator, setGenerator_generator_self]
  have put (y : Generator) : (s.setGenerator g y).EngineFrame
      (((s.setGenerator g x).deliver (generatorHits g)).setGenerator g y) := by
    refine ⟨?_, hd.ids, hd.queue⟩
    rw [hd.rest]
    simp [setGenerator]
  have hs : s.fireGenerator g =
      let u := (s.setGenerator g x).deliver (generatorHits g)
      if (u.generator g).endsAt x.firings then
        match (u.generator g).owner with
        | some h =>
          (u.setGenerator g (u.generator g).stopped).post h .triggerEnded (byteOf g.val) x.firings.toNat
        | none => u.setGenerator g (u.generator g).stopped
      else u.setGenerator g (u.generator g).nextInterval := rfl
  rw [hs]
  simp only [hx]
  split
  · split
    · exact (put _).trans (post_engine ..)
    · exact put _
  · exact put _

/-! ### The open completion (R57) -/

/-- Where no completion is open, nothing that could follow a report is taken. -/
theorem takeShare_none (h : s.completion = none) (x : CompletionShare) : s.takeShare x = s := by
  simp [takeShare, h]

/-- The same of several. -/
theorem takeShares_none (h : s.completion = none) (shares : List CompletionShare) :
    s.takeShares shares = s := by
  unfold takeShares
  induction shares ++ [CompletionShare.select] with
  | nil => rfl
  | cons x xs ih => rw [List.foldl_cons, takeShare_none s h, ih]

/-- What one thing taken of an open completion does: nothing, or that one thing. -/
theorem takeShare_cases (x : CompletionShare) :
    s.takeShare x = s ∨
    ∃ c, s.completion = some c ∧ x ∈ c.left ∧
      (x = .watch ∧ s.takeShare x = ((s.leave .watch).watchShare c.report).schedule ∨
       x = .job ∧ s.takeShare x =
         ((s.jobShare c.report).updateJob c.report.job Job.awaitSelection).leave .job ∨
       x = .select ∧ .job ∉ c.left ∧ s.takeShare x = (s.leave .select).schedule) := by
  cases hc : s.completion with
  | none => exact .inl (takeShare_none s hc x)
  | some c =>
    by_cases hx : x ∈ c.left
    · cases x with
      | watch => exact .inr ⟨c, rfl, hx, .inl ⟨rfl, by simp [takeShare, hc, hx]⟩⟩
      | job => exact .inr ⟨c, rfl, hx, .inr (.inl ⟨rfl, by simp [takeShare, takeJobShare, hc, hx]⟩)⟩
      | select =>
        by_cases hj : .job ∈ c.left
        · exact .inl (by simp [takeShare, hc, hj])
        · exact .inr ⟨c, rfl, hx, .inr (.inr ⟨rfl, hj, by simp [takeShare, hc, hx, hj]⟩)⟩
    · exact .inl (by simp [takeShare, hc, hx])

/-- A removal settles nothing where no completion of what it removes is open. -/
theorem settle_other {shares : List CompletionShare} {removed : JobId → Bool}
    (h : ∀ c ∈ s.completion, removed c.report.job = false) : s.settle shares removed = s := by
  cases hc : s.completion with
  | none => simp [settle, hc]
  | some c => simp [settle, hc, h c hc]

/-- The converter hands on a report exactly with a conversion at its end and no completion open. -/
theorem handOn_cases :
    s.handOn = s ∨
    ∃ ctx timestamp held, s.completion = none ∧ s.converter = some ctx ∧
      ctx.phase = .converting timestamp held ∧
      s.handOn = ((s.setConverter none).channelShare (ctx.report timestamp held)).setCompletion
        (some ⟨ctx.report timestamp held, allShares⟩) := by
  cases hc : s.completion with
  | some c => exact .inl (by simp [handOn, hc])
  | none =>
    cases hx : s.converter with
    | none => exact .inl (by simp [handOn, hc, hx])
    | some ctx =>
      cases hp : ctx.phase with
      | sampling => exact .inl (by simp [handOn, hc, hx, hp])
      | converting timestamp held =>
        exact .inr ⟨ctx, timestamp, held, rfl, rfl, hp, by simp [handOn, hc, hx, hp]⟩

end State
end Sys2Proof.Machine
end

