-- ==== Sys2Proof/WellFormed.lean ====
section
/-! DEFINITION. When a command or event is well formed: what the board and the bus can send. -/

namespace Sys2Proof

/-- The reference is above ground (00_scope.md, REFIN 2.0 V to AVDD). -/
def AnalogInput.wellFormed (a : AnalogInput) : Bool := decide (0 < a.refin)

/-- An order names each generator at most once. -/
def EdgeOrder.wellFormed (o : EdgeOrder) : Bool := decide (o.before ++ o.after).Nodup

/-- What a completion row takes: each share at most once, and no selection ahead of the Job Table's
share (R57). -/
def completionWellFormed (shares : List CompletionShare) : Bool :=
  decide (shares.Nodup ∧ ¬ [CompletionShare.select, .job].Sublist shares)

/-- Only the I2C port's master answers a byte with a NACK (R166); an SPI byte has no acknowledge bit,
and its rows carry `true`. -/
def ackWellFormed (h : HostId) (ack : Bool) : Bool := ack || decide (h = 2)

/-- The checks of a row's operands. Parameter bytes have none: a host may send any (R163). -/
def Instr.wellFormed : Instr → Bool
  | .attach _ _ => true
  | .detach _ _ => true
  | .setHostOptions _ _ => true
  | .readStatus _ => true
  | .submitJob _ _ => true
  | .withdrawJob _ _ => true
  | .readJob _ _ => true
  | .drainResults _ _ => true
  | .readNotices _ _ => true
  | .claimChannel _ _ => true
  | .releaseChannel _ _ => true
  | .configureChannel _ _ => true
  | .readChannel _ _ => true
  | .claimTrigger _ _ => true
  | .releaseTrigger _ _ => true
  | .programTrigger _ _ => true
  | .startTrigger _ _ => true
  | .stopTrigger _ _ => true
  | .readTrigger _ _ => true
  | .setWatch _ _ => true
  | .clearWatch _ _ => true
  | .readWatch _ _ => true
  | .frameBegin _ => true
  | .frameEnd _ => true
  | .i2cByteRefused _ => true
  | .readPhaseBegin => true
  | .recordTransferred h ack => ackWellFormed h ack
  | .noticeTransferred h ack => ackWellFormed h ack
  | .discardCountTransferred h ack => ackWellFormed h ack
  | .timebaseTick => true
  | .triggerDelayExpiry _ => true
  | .triggerPeriodExpiry _ => true
  | .leaseTimerExpiry _ => true
  | .staleIntervalReached _ => true
  | .trigEdge _ _ o => o.wellFormed
  | .samplingPhaseEnd a => a.wellFormed
  | .conversionComplete shares => completionWellFormed shares
  | .deviceReset _ => true
  | .byteTaken _ _ => true
  | .replyByteTransferred h ack => ackWellFormed h ack

end Sys2Proof
end

