-- ==== Sys2Proof/Tests/Slice0.lean ====
section
/-! SUPPORT. Tests of one step each, with the results that the data sheet's own examples and tables
give; the refusals of `Instr.wellFormed`; and for every statement with hypotheses a state and operands
that meet them. -/

namespace Sys2Proof.Tests

open Sys2Proof.Machine

/-! ### Helpers -/

/-- A row answers a next state of which the check holds. -/
def after (i : Instr) (s : State) (check : State → Bool) : Bool :=
  match exec i s with
  | .next t => check t
  | .fault _ => false
  | .refused _ => false

/-- Rows in order answer a next state of which the check holds. -/
def afterAll (rows : List Instr) (s : State) (check : State → Bool) : Bool :=
  match execAll rows s with
  | .next t => check t
  | .fault _ => false
  | .refused _ => false

/-- Reset, with every host ATTACHED with the default options. -/
def on : State := { State.reset with sessions := Table.make 3 { state := .attached } }

/-- The last outcome of a host. -/
def outcome (s : State) (h : HostId) : CmdOutcome := (s.port h).lastOutcome

/-- A CONVERT job to the queue on channel 5, source NOW. -/
def job (owner : HostId) (tag : Byte) (cls : JobClass) (state : JobState) : Job :=
  { id := ⟨owner, tag⟩, kind := .convert, cls, dest := .queue, source := .now, policy := .ignore,
    passLimit := 0, notifyPass := false, entries := [⟨5, 0⟩], state }

/-- The jobs of a table in which the hosts hold these numbers of slots. -/
def holdings (a b c : Nat) : List Job :=
  let of (h : HostId) (n : Nat) := (List.range n).map fun i => job h (byteOf (i + 1)) .normal .armed
  of 0 a ++ of 1 b ++ of 2 c

/-- A context for a job's entry 0 in a phase, on channel 5 at setting 0 and rate FAST. -/
def context (owner : HostId) (tag : Byte) (phase : ConversionPhase) : Context :=
  { job := ⟨owner, tag⟩, index := 0, channel := 5, kind := .convert, threshold := none, setting := 0,
    rate := some .fast, phase }

/-- `on` with one job RUNNING its pass and converting since timestamp 1013 an input in the band of
code 1237. -/
def converting (j : Job) : State :=
  { on with
    jobs := [{ j with state := .running }]
    marker := on.marker.put j.cls (some j.id)
    converter := some (context j.id.owner j.id.tag (.converting 1013 ⟨1237, 4096⟩)) }

/-- A record of a tag and a sample timestamp. -/
def record (tag : Byte) (ts : Timestamp) : ResultRecord :=
  { tag, index := 0, channel := 0, kind := .convert, redone := false, last := true, fast := false,
    restarted := false, value := 7, pass := 0, timestamp := ts, check := 0 }

/-- Host 2 as section 11.4 has it at a tick: watermark 3, stale interval 50, P, Q and R held, the
stale mark set, ADR1:0 = 10. -/
def drained (tick : Timestamp) : State :=
  { on with
    adr := 2
    timebase := tick
    sessions := on.sessions.put 2 ⟨.attached, { watermark := 3, staleInterval := 50 }, none⟩
    results := on.results.put 2
      { records := [record 1 100, record 2 140, record 3 160], staleMark := true } }

/-- TG2 as section 11.5 programs it, in a state. -/
def burstGenerator (state : GeneratorState) : Generator :=
  { owner := some 0, mode := .burst, delay := 0, period := 7, fraction := 10, burst := 5,
    start := .external 1 false, state }

/-- W2 as section 6.7 sets it, in a state. -/
def fedWatch (state : WatchState) : Watch :=
  { owner := some 1, channel := 6, low := 1000, high := 3000, zone := .outside, hysteresis := 100,
    clearNotices := true, state }

/-- The parameter bytes of the Submit Job frame of section 10.8. -/
def submitBytes : List Byte :=
  [0x05, 0x00, 0x01, 0x00, 0x12, 0x00, 0x01, 0x00, 0x02, 0x01, 0x03, 0x03, 0x00, 0x00, 0x03, 0x00, 0x00,
   0x09, 0x00, 0x00]

/-- A port part-way through a frame. -/
def inFrame (phase : PortPhase) (command : Option Command) (params : List Byte) : Port :=
  { phase, statusCapture := some 0x80, command := command.map Command.code, params,
    required := command.bind fun c => requiredLength c params }

/-! ### Well-formedness (the smoke test: one ill-formed term for each check) -/

theorem wf_reference_above_ground : Instr.wellFormed (.samplingPhaseEnd ⟨5, 0⟩) = false := by decide
theorem wf_order_names_a_generator_once : Instr.wellFormed (.trigEdge 0 true ⟨[1], [1]⟩) = false := by
  decide
theorem wf_no_nack_of_a_record_on_spi : Instr.wellFormed (.recordTransferred 0 false) = false := by decide
theorem wf_no_nack_of_a_notice_on_spi : Instr.wellFormed (.noticeTransferred 1 false) = false := by decide
theorem wf_no_nack_of_a_count_on_spi : Instr.wellFormed (.discardCountTransferred 0 false) = false := by
  decide
theorem wf_no_nack_of_a_byte_on_spi : Instr.wellFormed (.replyByteTransferred 1 false) = false := by decide
theorem wf_no_share_twice : Instr.wellFormed (.conversionComplete [.job, .select, .job]) = false := by decide
theorem wf_no_selection_ahead_of_the_job : Instr.wellFormed (.conversionComplete [.select, .job]) = false := by
  decide
theorem wf_whole_completion : Instr.wellFormed (.conversionComplete [.job, .select, .watch]) = true := by decide
theorem wf_nack_on_i2c : Instr.wellFormed (.replyByteTransferred 2 false) = true := by decide

/-! ### Sessions -/

/-- The defaults of R142; the short form of R143. -/
theorem test_attach_defaults :
    after (.attach 0 []) State.reset fun t => t.session 0 == ⟨.attached, ⟨16, 0, .wait, true, 0⟩, none⟩ := by
  decide

/-- Section 10.3's block; a lease unit is 1024 ticks (R142, R147). -/
theorem test_attach_long_form :
    after (.attach 2 [3, 0, 0, 50, 1, 0, 0, 2]) State.reset fun t =>
      t.session 2 == ⟨.attached, ⟨3, 50, .discard, false, 2⟩, some 2048⟩ := by decide

/-- HOST_LEFT with detail 1 to each other ATTACHED host (R145, R153). -/
theorem test_detach_posts_host_left :
    after (.detach 1 []) on fun t =>
      (t.noticeQueue 0).notices == [⟨.hostLeft, 1, 1, 0⟩] && (t.noticeQueue 1).notices == [] &&
      (t.session 1).state == .detached := by decide

/-- A watermark of 0 is out of range (R143, R146). -/
theorem test_options_watermark_zero :
    after (.setHostOptions 0 [0, 0, 0, 0, 0, 0, 0, 0]) on fun t => outcome t 0 == .badParam := by decide

/-- The layout of section 10.5 after reset: 24 free slots, the default options, identity 0x3A. -/
theorem test_read_status_after_reset :
    after (.readStatus 0) State.reset fun t =>
      (t.port 0).reply.map (fun r => r.body) == some (.status
        [0, 0, 0, 0, 0, 0, 0, 0, 0, 0, 0, 0, 0, 0, 24, 16, 0, 0, 0, 0, 1, 0, 0, 0, 0, 0, 0, 0x3A, 1] 0) := by
  decide

/-! ### Jobs -/

/-- The frame of section 10.8 is the job of section 1.7. -/
theorem test_submit_example :
    after (.submitJob 1 submitBytes) on fun t =>
      t.jobs.map (fun j => (j.id, j.source, j.policy, j.passLimit, j.notifyPass, j.state)) ==
        [(⟨1, 5⟩, .generator 2, .hold, 2, true, .armed)] &&
      t.jobs.map Job.entries == [[⟨3, 0⟩, ⟨3, 0⟩, ⟨9, 0⟩]] && outcome t 1 == .ok := by decide

/-- Section 10.8: had byte 4 been 0x14, the frame would have been refused with BAD_PARAM. -/
theorem test_submit_bad_source :
    after (.submitJob 1 (submitBytes.set 4 0x14)) on fun t =>
      outcome t 1 == .badParam && t.jobs == [] := by decide

/-- The twelve lines of the slot rule's table (section 1.3). -/
theorem test_slot_rule_examples :
    ([(16, 0, 0, 0), (16, 0, 0, 1), (10, 6, 0, 0), (10, 6, 0, 1), (12, 8, 0, 0), (12, 8, 0, 2), (12, 8, 4, 2),
      (14, 6, 2, 0), (14, 6, 2, 2), (9, 9, 2, 0), (10, 9, 2, 1), (10, 10, 2, 0)] :
      List (Nat × Nat × Nat × HostId)).map
      (fun x => ({ on with jobs := holdings x.1 x.2.1 x.2.2.1 } : State).slotRuleAdmits x.2.2.2) =
    [false, true, true, true, false, true, false, false, true, true, true, false] := by decide

/-- The conversion in flight of a withdrawn job is aborted (R24, R58). -/
theorem test_withdraw_running :
    after (.withdrawJob 0 [12]) (converting (job 0 12 .normal .ready)) fun t =>
      t.jobs == [] && t.converter == none && t.marker.normal == none && outcome t 0 == .ok := by decide

/-- The job of section 1.7 in the layout of section 10.5. -/
theorem test_read_job_example :
    after (.readJob 1 5)
      { on with jobs := ((parseJob 1 submitBytes).map fun j => [j]).getD [] } fun t =>
      (t.port 1).reply.map (fun r => r.body) == some (.fixed
        ([0, 0, 1, 0, 0x12, 0, 1, 0, 2, 1, 0, 0, 0, 0, 0, 0, 0, 0, 0, 0, 3, 3, 0, 0, 3, 0, 0, 9, 0, 0]
          ++ List.replicate 39 0)) := by decide

/-! ### Drains and transfers -/

/-- Section 11.4: a maximum of 8 with three records held is fixed at 3. -/
theorem test_drain_count :
    after (.drainResults 2 8) (drained 165) fun t =>
      (t.port 2).reply.map (fun r => r.body) == some (.drain 3) && outcome t 2 == .ok := by decide

/-- A maximum above 16 is refused, and the reply is the outcome byte alone (R133, R165). -/
theorem test_read_notices_bad_count :
    after (.readNotices 0 17) on fun t =>
      (t.port 0).reply.map (fun r => r.body) == some (.fixed [3]) := by decide

/-- `drained` with the reply of count 3 in transfer on the I2C port. -/
def draining (tick : Timestamp) (transferred : Nat) : State :=
  { drained tick with
    ports := (drained tick).ports.put 2
      { inFrame .reply (some .drainResults) [8] with
        reply := some { body := .drain 3, transferred }, readPhase := .begun, statusSent := true } }

/-- Section 11.4 at 168: P leaves, Q's age of 28 clears the mark, AT_WATERMARK ceases, IRQ2 is
released. -/
theorem test_record_leaves :
    after (.recordTransferred 2 true) (draining 168 2) fun t =>
      (t.resultQueue 2).records.map ResultRecord.tag == [2, 3] && !t.stale 2 && !t.irqAsserted 2 := by
  decide

/-- Section 11.4: the seventh byte of Q answered NACK counts as transferred, and Q stays. -/
theorem test_nack_keeps_the_record :
    after (.replyByteTransferred 2 false) (draining 169 8) fun t =>
      (t.resultQueue 2).records.length == 3 && (t.port 2).readPhase == .ended &&
      (t.port 2).reply.map Reply.transferred == some 9 && t.outByte 2 == none := by decide

/-- The notice of section 10.8, byte by byte. -/
theorem test_notice_example :
    Notice.bytes ⟨.watchAlert, 2, 3050, 70000⟩ = [0x05, 0x02, 0x0B, 0xEA, 0x00, 0x01, 0x11, 0x70] := by
  decide

/-- The head notice leaves with its last byte (R134). -/
theorem test_notice_leaves :
    after (.noticeTransferred 0 true)
      { on with
        notices := on.notices.put 0 { notices := [⟨.watchAlert, 2, 3050, 70000⟩, ⟨.jobDone, 1, 1, 70001⟩] }
        ports := on.ports.put 0
          { inFrame .reply (some .readNotices) [16] with
            reply := some { body := .notices 2, transferred := 2 }, statusSent := true } }
      fun t => (t.noticeQueue 0).notices.map Notice.kind == [.jobDone] := by decide

/-- The count is lowered by the value reported, not cleared (R77). -/
theorem test_discard_count_lowered :
    after (.discardCountTransferred 0 true)
      { on with
        results := on.results.put 0 { discarded := 9 }
        ports := on.ports.put 0
          { inFrame .reply (some .readStatus) [] with
            reply := some { body := .status (List.replicate 29 0) 7, transferred := 5 },
            statusSent := true } }
      fun t => (t.resultQueue 0).discarded == 2 := by decide

/-! ### Channels -/

/-- `on` with channel 5 owned by host 1 at setting 0 and rate FAST, sequence number 7 (section 3.9). -/
def owned : State :=
  { on with channels := on.channels.put 5 { setting := 0, rate := .fast, owner := some 1, sequence := 7 } }

theorem test_claim_held : after (.claimChannel 0 [5]) owned fun t => outcome t 0 == .heldByOther := by decide
theorem test_release_not_owner : after (.releaseChannel 0 [5]) owned fun t => outcome t 0 == .notOwner := by
  decide

/-- Section 3.9: a Configure Channel of an unowned channel is accepted. -/
theorem test_configure_unowned :
    after (.configureChannel 2 [2, 3, 0]) owned fun t =>
      (t.channel 2).setting == 3 && (t.channel 2).owner == none && outcome t 2 == .ok := by decide

/-- The layout of section 10.5 over the reset values of R60. -/
theorem test_read_channel_after_reset :
    after (.readChannel 0 2) on fun t =>
      (t.port 0).reply.map (fun r => r.body) ==
        some (.fixed [0, 0xFF, 1, 0, 0, 0, 0, 0, 0, 0, 0, 0, 0, 0, 0]) := by decide

/-! ### Generators -/

/-- `on` with TG2 of section 11.5 in a state. -/
def bursting (x : Generator) : State := { on with generators := on.generators.put 2 x }

theorem test_claim_trigger : after (.claimTrigger 1 [2]) on fun t => (t.generator 2).owner == some 1 := by
  decide

/-- A release stops the generator and posts nothing (R95). -/
theorem test_release_trigger :
    after (.releaseTrigger 0 [2]) (bursting { burstGenerator .running with remaining := some 3 }) fun t =>
      (t.generator 2).state == .stopped && (t.generator 2).owner == none &&
      (t.noticeQueue 0).notices == [] && (t.generator 2).burst == 5 := by decide

/-- Section 11.5's program as bytes (section 10.3). -/
theorem test_program_trigger :
    after (.programTrigger 0 [2, 2, 0, 0, 0, 0, 0, 7, 10, 5, 1, 1, 1])
      (bursting { owner := some 0 }) fun t => t.generator 2 == burstGenerator .stopped := by decide

/-- Section 11.5: Start Trigger enters WAITING_EDGE with firings 0 and accumulator 0. -/
theorem test_start_trigger :
    after (.startTrigger 0 [2])
      (bursting { burstGenerator .stopped with firings := 9, accumulator := 4 }) fun t =>
      t.generator 2 == burstGenerator .waitingEdge := by decide

theorem test_stop_trigger_not_owner :
    after (.stopTrigger 1 [2]) (bursting (burstGenerator .running)) fun t => outcome t 1 == .notOwner := by
  decide

/-- The layout of section 10.5 for section 11.5's generator after its burst: firings 5, accumulator
8. -/
theorem test_read_trigger :
    after (.readTrigger 1 2)
      (bursting { burstGenerator .stopped with firings := 5, accumulator := 8 }) fun t =>
      (t.port 1).reply.map (fun r => r.body) ==
        some (.fixed [0, 0, 2, 0, 0, 0, 0, 0, 7, 10, 5, 1, 1, 1, 0, 0, 5, 8]) := by decide

/-- Section 11.5 at 2010.4: the falling edge is firing 1, accumulator 10, next interval 7. -/
theorem test_edge_starts_burst :
    after (.trigEdge 1 false ⟨[], []⟩)
      { bursting (burstGenerator .waitingEdge) with trigSample := Table.make 2 true } fun t =>
      t.generator 2 == { burstGenerator .running with
        firings := 1, accumulator := 10, remaining := some 7 } := by decide

/-- Section 11.5 at 2004.6: a rising edge is ignored. -/
theorem test_edge_of_the_other_direction :
    after (.trigEdge 1 true ⟨[], []⟩) (bursting (burstGenerator .waitingEdge)) fun t =>
      t.generator 2 == burstGenerator .waitingEdge && t.trigSample.get 1 == true := by decide

/-- Section 11.5 at 2017: firing 2, a carry to accumulator 4, next interval 8. -/
theorem test_period_expiry_carries :
    after (.triggerPeriodExpiry 2)
      (bursting { burstGenerator .running with firings := 1, accumulator := 10, remaining := some 0 }) fun t =>
      t.generator 2 == { burstGenerator .running with
        firings := 2, accumulator := 4, remaining := some 8 } := by decide

/-- Section 11.5 at 2040: firing 5 ends the burst with TRIGGER_ENDED, detail 5. -/
theorem test_period_expiry_ends_burst :
    after (.triggerPeriodExpiry 2)
      (bursting { burstGenerator .running with firings := 4, accumulator := 8, remaining := some 0 }) fun t =>
      (t.generator 2).state == .stopped && (t.generator 2).accumulator == 8 &&
      (t.noticeQueue 0).notices == [⟨.triggerEnded, 2, 5, 0⟩] := by decide

/-- A ONCE generator ends at its first firing with detail 1 (R101). -/
theorem test_delay_expiry_once :
    after (.triggerDelayExpiry 0)
      { on with
        generators := on.generators.put 0
          { owner := some 1, delay := 9, state := .delaying, remaining := some 0 } } fun t =>
      (t.generator 0).state == .stopped && (t.noticeQueue 1).notices == [⟨.triggerEnded, 0, 1, 0⟩] := by decide

/-- R100: eight intervals of 10 + 3/16 from accumulator 0 last 81 ticks and leave 8. -/
theorem test_eight_intervals :
    let runs := (List.range 8).foldl
      (fun (x : Nat × Generator) _ => (x.1 + x.2.nextInterval.remaining.getD 0, x.2.nextInterval))
      (0, { mode := .periodic, period := 10, fraction := 3 })
    (runs.1, runs.2.accumulator) = (81, 8) := by decide

/-! ### Watches -/

/-- Section 6.7's settings as bytes (section 10.3). -/
theorem test_set_watch :
    after (.setWatch 1 [2, 6, 0x03, 0xE8, 0x0B, 0xB8, 1, 100, 1]) on fun t =>
      t.watch 2 == fedWatch .unknown := by decide

/-- Low above high is refused (R113). -/
theorem test_set_watch_inverted :
    after (.setWatch 1 [2, 6, 0x0B, 0xB8, 0x03, 0xE8, 1, 100, 1]) on fun t => outcome t 1 == .badParam := by
  decide

/-- A freed watch keeps its window and posts nothing (R115). -/
theorem test_clear_watch :
    after (.clearWatch 1 [2]) { on with watches := on.watches.put 2 (fedWatch .alert) } fun t =>
      t.watch 2 == { fedWatch .unknown with owner := none } && (t.noticeQueue 1).notices == [] := by decide

theorem test_read_watch :
    after (.readWatch 0 2) { on with watches := on.watches.put 2 (fedWatch .alert) } fun t =>
      (t.port 0).reply.map (fun r => r.body) ==
        some (.fixed [0, 1, 6, 0x03, 0xE8, 0x0B, 0xB8, 1, 100, 1, 2]) := by decide

/-- The states of section 6.7's watch over its eight CONVERT values. -/
theorem test_watch_sequence :
    (([2000, 3050, 2950, 3100, 2900, 996, 1052, 1100] : List Code).foldl
      (fun (x : List WatchState × Watch) v => (x.1 ++ [x.2.next v], { x.2 with state := x.2.next v }))
      ([], fedWatch .unknown)).1 =
    [.clear, .alert, .alert, .alert, .clear, .alert, .alert, .clear] := by decide

/-! ### Ports -/

/-- Section 10.4's example: ATTACHED with notices, last outcome TAG_IN_USE, is 0xC7. -/
theorem test_frame_begin_status :
    after (.frameBegin (.csFall 1))
      { on with
        notices := on.notices.put 1 { notices := [⟨.jobDone, 1, 1, 0⟩] }
        ports := on.ports.put 1 { lastOutcome := .tagInUse } } fun t =>
      (t.port 1).statusCapture == some 0xC7 && (t.port 1).phase == .command && t.outByte 1 == some 0xC7 := by
  decide

/-- Section 11.4 at 165: the address 0x52 is the port's with ADR1:0 = 10; the capture is 0xB0. -/
theorem test_frame_begin_i2c :
    after (.frameBegin (.start 0x52 false)) (drained 165) fun t =>
      (t.port 2).statusCapture == some 0xB0 && t.irqAsserted 2 && t.outByte 2 == none := by decide

/-- Section 9.2: the reply of Drain Results begins at MISO byte 2, behind one byte of 0x00. -/
theorem test_spi_drain_bytes :
    afterAll [.frameBegin (.csFall 0), .byteTaken 0 0x18, .byteTaken 0 0x08] on fun t =>
      (t.port 0).lastSent == some 0x00 && t.outByte 0 == some 0x00 && (t.port 0).phase == .reply &&
      (t.port 0).reply == some { body := .drain 0 } := by decide

/-- Section 10.8: on the I2C port a 21st parameter byte of the frame is refused, and FRAME_ERROR is
recorded at the frame end. -/
theorem test_byte_refused :
    after (.i2cByteRefused 0) { on with ports := on.ports.put 2 (inFrame .parameters (some .submitJob) submitBytes) }
      fun t => (t.port 2).pendingOutcome == some .frameError && (t.port 2).phase == .discarding := by decide

/-- Section 11.4: the repeated START with R begins the read phase, whose first byte is the capture. -/
theorem test_read_phase_begin :
    after .readPhaseBegin
      { drained 165 with ports := on.ports.put 2 { inFrame .command none [] with statusCapture := some 0xB0 } }
      fun t => (t.port 2).readPhase == .begun && t.outByte 2 == some 0xB0 := by decide

/-- A partial byte behind a write-type command of the right length is a FRAME_ERROR (R161). -/
theorem test_frame_end_partial :
    after (.frameEnd (.csRise 1 true))
      { on with ports := on.ports.put 1 (inFrame .parameters (some .submitJob) submitBytes) } fun t =>
      outcome t 1 == .frameError && t.jobs == [] := by decide

/-- The same frame ended at a byte admits the job (R159). -/
theorem test_frame_end_whole :
    after (.frameEnd (.csRise 1 false))
      { on with ports := on.ports.put 1 (inFrame .parameters (some .submitJob) submitBytes) } fun t =>
      outcome t 1 == .ok && t.jobs.length == 1 && (t.port 1).phase == .idle := by decide

/-! ### Time -/

/-- The timebase wraps from 2^32 - 1 to 0 (R90). -/
theorem test_tick_wraps :
    after .timebaseTick { on with timebase := 0xFFFFFFFF } fun t => t.timebase == 0 := by decide

/-- Section 11.6: the lapse leaves the settings of channel 5, stops TG0 and tells the other two. -/
theorem test_lease_expiry :
    after (.leaseTimerExpiry 2)
      { on with
        timebase := 80000
        sessions := on.sessions.put 2 ⟨.attached, { leaseLength := 2 }, some 0⟩
        channels := on.channels.put 5 { setting := 3, rate := .fast, owner := some 2 } } fun t =>
      t.session 2 == ⟨.lapsed, { leaseLength := 2 }, none⟩ &&
      t.channel 5 == { setting := 3, rate := .fast } &&
      (t.noticeQueue 0).notices == [⟨.hostLeft, 2, 2, 80000⟩] &&
      (t.noticeQueue 1).notices == [⟨.hostLeft, 2, 2, 80000⟩] := by decide

/-- Section 11.4: Q, of timestamp 140, reaches the age of 50 at 190 and not at 189. -/
theorem test_stale_at_190 :
    ([189, 190] : List Timestamp).map (fun tick =>
      after (.staleIntervalReached 2)
        { drained tick with
          results := on.results.put 2 { records := [record 2 140] } } fun t => t.stale 2) =
    [false, true] := by decide

/-! ### The converter -/

/-- The durations of R54's table. -/
theorem test_durations :
    ([0, 1, 2, 3] : List (BitVec 2)).map (fun x =>
      [samplingCycles x + convertingCycles .convert .normal, samplingCycles x + convertingCycles .convert .fast,
        samplingCycles x + convertingCycles .compare .fast]) =
    [[18, 15, 6], [22, 19, 10], [30, 27, 18], [46, 43, 34]] := by decide

/-- Section 3.9: a sampling phase that ends at 1013 takes that timestamp. -/
theorem test_sampling_phase_end :
    after (.samplingPhaseEnd ⟨1237, 4096⟩)
      { on with timebase := 1013, converter := some (context 0 12 .sampling) } fun t =>
      t.converter == some (context 0 12 (.converting 1013 ⟨1237, 4096⟩)) := by decide

/-- The record of section 10.8: rate FAST clears the two low bits of the code, and the check byte is
0x0B. -/
theorem test_completion_record :
    after (.conversionComplete [.job, .watch, .select])
      (converting { job 0 12 .normal .ready with entries := [⟨2, 0⟩, ⟨5, 0⟩, ⟨2, 0⟩], cursor := 1 }) fun t =>
      (t.resultQueue 0).records.map ResultRecord.bytes ==
        [[0x0C, 0x15, 0x04, 0x04, 0xD4, 0x00, 0x00, 0x00, 0x00, 0x03, 0xF5, 0x0B]] &&
      t.jobs.map Job.cursor == [2] && t.converter.map Context.channel == some 2 := by decide

/-- Section 11.2: an edge makes an URGENT job eligible; the NORMAL pass is aborted and SUSPENDED with
REDO at its cursor. -/
theorem test_urgent_preempts :
    after (.trigEdge 0 true ⟨[], []⟩)
      (let s := converting (job 2 40 .normal .ready)
       { s with jobs := s.jobs ++
          [{ job 0 1 .urgent .armed with source := .pin 0 .rise, dest := .table, entries := [⟨2, 0⟩] }] })
      fun t =>
      t.jobs.map (fun j => (j.state, j.redo)) == [(.suspended, true), (.running, false)] &&
      t.converter.map Context.job == some ⟨0, 1⟩ && t.rotation.urgent == 0 := by decide

/-- Section 11.3, step 3: an arrival under RESTART tops the reservation up from 2 to 4 with 2 free
places left, and step 5: it is an overrun with none left. -/
theorem test_restart_top_up :
    let j : Job := { job 1 20 .normal .ready with
      policy := .restart, source := .generator 0, entries := List.replicate 4 ⟨5, 0⟩, cursor := 2, produced := 2 }
    let s (held : Nat) : State := { converting j with
      results := on.results.put 1
        { records := List.replicate held (record 1 0), accounts := ⟨none, some 2, none⟩ } }
    ([60, 62].map fun held =>
      (((s held).arrival ⟨1, 20⟩).account 1 .normal,
        ((s held).arrival ⟨1, 20⟩).jobs.map fun k => (k.state, k.cursor, k.overruns))) =
    [(some 4, [(.suspended, 0, 0)]), (some 2, [(.running, 2, 1)])] := by decide

/-- A job whose own completion raises the code its watch alerts on, its pass of two entries at entry 0. -/
def selfWatching : State :=
  let j : Job := { job 1 20 .normal .ready with
    policy := .restart, source := .watch 2, entries := List.replicate 2 ⟨5, 0⟩ }
  { converting j with
    watches := on.watches.put 2 { fedWatch .clear with channel := 5, low := 2000 }
    results := on.results.put 1 { accounts := ⟨none, some 2, none⟩ } }

/-- R110: an arrival of the watch share before the Job Table's share is an overrun, and one after it
restarts the pass with a top-up by the raised count, under either order of the selection. -/
theorem test_restart_among_the_shares :
    ([[.watch, .job, .select], [.job, .watch, .select], [.job, .select, .watch]] :
      List (List CompletionShare)).map (fun shares =>
      after (.conversionComplete shares) selfWatching fun t =>
        t.completion == none &&
        (t.account 1 .normal, t.jobs.map fun k => (k.cursor, k.restarted, k.overruns)) ==
          (if shares.head? = some .watch then (some 1, [(1, false, 1)]) else (some 2, [(0, true, 0)]))) =
      [true, true, true] := by decide

/-- Section 11.2 at 1005.5, where e0 of H2.40 completes and TRIG0 rises: H0.1 is URGENT and ARMED. -/
def atBoundary : State :=
  let j : Job := { job 2 40 .normal .ready with entries := [⟨5, 0⟩, ⟨8, 0⟩, ⟨9, 0⟩] }
  let s := converting j
  { s with jobs := s.jobs ++
      [{ job 0 1 .urgent .armed with source := .pin 0 .rise, dest := .table, entries := [⟨2, 0⟩] }] }

/-- What `atBoundary` comes to after `rows`: the jobs' states, cursors and REDO, and H2's records. -/
def boundaryOutcome (rows : List Instr) (jobs : List (JobState × Nat × Bool)) (records : Nat) : Bool :=
  afterAll rows atBoundary fun t =>
    t.completion == none && t.converter.map Context.job == some ⟨0, 1⟩ &&
    t.jobs.map (fun j => (j.state, j.cursor, j.redo)) == jobs && (t.resultQueue 2).records.length == records

/-- The rise of TRIG0 at the moment of `atBoundary`. -/
def boundaryEdge : Instr := .trigEdge 0 true ⟨[], []⟩

/-- R45, section 11.2: the completion first and the edge straight after the report: H2.40 is SUSPENDED
at cursor 1 with no REDO, its record is placed, and H0.1 is granted. -/
theorem test_edge_with_a_completion :
    boundaryOutcome [.conversionComplete [], boundaryEdge, .conversionComplete [.watch, .job, .select]]
      [(.suspended, 1, false), (.running, 0, false)] 1 := by decide

/-- R45, section 11.2: the same outcome with the edge between the watches and the record. -/
theorem test_edge_between_the_shares :
    boundaryOutcome [.conversionComplete [.watch], boundaryEdge, .conversionComplete [.job]]
      [(.suspended, 1, false), (.running, 0, false)] 1 := by decide

/-- R57: what the rows leave open is taken before the timebase moves. -/
theorem test_open_completion_ends_with_its_tick :
    after (.conversionComplete [.watch]) atBoundary fun t =>
      t.selectionWaits && t.finishCompletion.completion == none &&
      t.finishCompletion.converter.map Context.channel == some 8 := by decide

/-- R35: once the Job Table's share is taken, its event selects, whatever the row leaves out. -/
theorem test_selection_follows_the_share :
    after (.conversionComplete [.job]) atBoundary fun t =>
      !t.selectionWaits && t.completion.map Completion.left == some [.watch] &&
      t.converter.map Context.channel == some 8 && t.jobs.map Job.state == [.running, .armed] := by decide

/-- R59, section 11.2: with the edge first, the conversion is aborted and redone. -/
theorem test_edge_ahead_of_the_completion :
    boundaryOutcome [boundaryEdge, .conversionComplete [.watch, .job, .select]]
      [(.suspended, 0, true), (.running, 0, false)] 0 := by decide

/-- R25: a withdrawal that finds its job's completion reported leaves the record in the queue, and where
that completion ended the job it finds none. -/
theorem test_withdraw_with_a_completion :
    ([0, 1] : List Nat).map (fun limit =>
      afterAll [.conversionComplete [], .withdrawJob 0 [12]]
        (converting { job 0 12 .normal .ready with passLimit := limit }) fun t =>
        (t.resultQueue 0).records.length == 1 && t.jobs == [] &&
        outcome t 0 == (if limit = 1 then .noSuchJob else .ok)) = [true, true] := by decide

/-- R125, R154: a teardown that finds a completion of its host's reported has it evaluated by the other
hosts' watches. -/
theorem test_teardown_with_a_completion :
    afterAll [.conversionComplete [], .detach 2 []]
      { atBoundary with watches := on.watches.put 2 { fedWatch .clear with channel := 5, low := 2000 } }
      fun t => (t.watch 2).state == .alert && t.jobs.map Job.id == [⟨0, 1⟩] &&
        (t.noticeQueue 1).notices.map Notice.kind == [.watchAlert, .hostLeft] := by decide

/-- H0's conversion at its end, with a READY job of H1 behind it. -/
def twoHosts : State :=
  let s := converting (job 0 12 .normal .ready)
  { s with jobs := s.jobs ++ [{ job 1 3 .normal .ready with dest := .table }], ready := ⟨[], [⟨1, 3⟩], []⟩ }

/-- R35, R51: a Detach behind the report of H0's completion leaves no eligible job waiting. -/
theorem test_teardown_selects_behind_a_report :
    afterAll [.conversionComplete [], .detach 0 []] twoHosts fun t =>
      t.jobs.map (fun j => (j.id, j.state)) == [(⟨1, 3⟩, .running)] &&
      t.converter.map Context.job == some ⟨1, 3⟩ && t.completion == none := by decide

/-- R35, R50: neither does a withdrawal. -/
theorem test_withdrawal_selects_behind_a_report :
    afterAll [.conversionComplete [], .withdrawJob 0 [12]] twoHosts fun t =>
      t.converter.map Context.job == some ⟨1, 3⟩ && t.completion.map Completion.left == some [.watch] := by
  decide

/-- R88: a lapse between the outcome byte and the count byte makes the count byte 0x00 too. -/
theorem test_count_byte_after_a_lapse :
    let p : Port := { phase := .reply, reply := some ⟨.drain 3, 1⟩, readPhase := .begun, statusSent := true }
    ([.attached, .lapsed] : List SessionState).map (fun x =>
      State.outByte { drained 165 with
        ports := on.ports.put 2 p, sessions := on.sessions.put 2 { state := x } } 2) =
      [some 3, some 0x00] := by decide

/-- Reset of the part: the blocks at their reset values, the pin level taken without an edge (R104). -/
theorem test_device_reset :
    after (.deviceReset ⟨1, 2, true, false⟩) (converting (job 0 12 .normal .ready)) fun t =>
      t.jobs == [] && t.tickDivider == 8 && t.i2cAddress == 0x52 && t.trigSample.get 0 == true &&
      (t.session 0).state == .detached := by decide

/-! ### Witnesses: a state and operands that meet the hypotheses of each statement that has some -/

/-- A job RUNNING its conversion, with its completion at the front of the queue. -/
def busy : State :=
  { converting (job 0 12 .normal .ready) with pending := [.conversionComplete allShares] }

/-- The report of entry 0 of the job 12 of H0. -/
def aReport : Report := ⟨⟨0, 12⟩, 0, 5, .convert, 1237, 1013, false⟩

/-- The completion of the first of two entries is open, with `left` still to follow its report. -/
def reportedWith (left : List CompletionShare) : State :=
  { on with
    jobs := [{ job 0 12 .normal .running with entries := [⟨5, 0⟩, ⟨8, 0⟩] }]
    marker := ⟨none, some ⟨0, 12⟩, none⟩
    completion := some ⟨aReport, left⟩ }

/-- The same completion once the Job Table has taken its share and the next entry has started. -/
def awaitingWatches : State :=
  { on with
    jobs := [{ job 0 12 .normal .running with entries := [⟨5, 0⟩, ⟨8, 0⟩], cursor := 1 }]
    marker := ⟨none, some ⟨0, 12⟩, none⟩
    converter := some { context 0 12 .sampling with index := 1, channel := 8 }
    completion := some ⟨aReport, [.watch]⟩ }

theorem witness_StepTakesTheFrontCommand : busy.pending = .conversionComplete allShares :: [] := rfl

theorem witness_OnlyTheirEventsMoveTimebaseAndLatestValues :
    (∃ t, exec .timebaseTick busy = .next t) ∧
    (∃ t, exec (.conversionComplete allShares) busy = .next t) ∧
    (∀ straps, Instr.timebaseTick ≠ .deviceReset straps) ∧
    (∀ shares, Instr.timebaseTick ≠ .conversionComplete shares) :=
  ⟨⟨_, rfl⟩, ⟨_, rfl⟩, by simp, by simp⟩

theorem witness_ACommandLeavesOtherHostsHoldings :
    frameOf (.detach 0 []) = some (0, .detach, []) ∧ (1 : HostId) ≠ 0 ∧
    (owned.channel 5).owner = some 1 ∧ (∃ t, exec (.detach 0 []) owned = .next t) ∧
    (∀ c ∈ owned.completion, c.report.job.owner = 0 → .watch ∉ c.left) ∧ Command.claimChannel ≠ .detach :=
  ⟨rfl, by decide, by decide, ⟨_, rfl⟩, by decide, by decide⟩

theorem witness_EveryStepKeeps_laws :
    busy.slotLaw ∧ busy.resultLaw ∧ busy.noticeLaw ∧ busy.holdingLaws ∧ busy.servedLaw ∧
    busy.generatorLaw ∧ busy.watchLaw ∧ busy.portLaw := by
  refine ⟨?_, ?_, ?_, ⟨?_, ?_⟩, ?_, ?_, ?_, ?_⟩ <;> decide

theorem witness_EveryStepKeeps_schedulerLaws : busy.schedulerLaws := by
  refine ⟨?_, ?_, ?_, ?_, ?_, ?_, ?_⟩ <;> decide

/-- The laws hold of an open completion before and after the Job Table's share. -/
theorem witness_EveryStepKeeps_openCompletion :
    ((reportedWith allShares).schedulerLaws ∧ (reportedWith allShares).servedLaw) ∧
    awaitingWatches.schedulerLaws ∧ awaitingWatches.servedLaw := by
  refine ⟨⟨⟨?_, ?_, ?_, ?_, ?_, ?_, ?_⟩, ?_⟩, ⟨?_, ?_, ?_, ?_, ?_, ?_, ?_⟩, ?_⟩ <;> decide

theorem witness_EveryStepKeeps_step : ∃ t, step busy = .next t := ⟨_, rfl⟩

theorem witness_AFrameOfBytesIsItsCommandRow :
    frameOf (.submitJob 1 submitBytes) = some (1, .submitJob, submitBytes) ∧
    frameOf (.readStatus 2) = some (2, .readStatus, []) ∧
    ∀ h : HostId, on.port h = { lastOutcome := (on.port h).lastOutcome } := by decide

theorem witness_CommandsWithoutASessionAreRefused :
    frameOf (.claimChannel 0 [5]) = some (0, .claimChannel, [5]) ∧
    frameOf (.readJob 2 1) = some (2, .readJob, [1]) ∧
    (State.reset.port 0).awaits .claimChannel = true ∧ (State.reset.port 2).awaits .readJob = true ∧
    ∀ h : HostId, (State.reset.session h).state ≠ .attached := by decide

theorem witness_MalformedCommandsAreRefused :
    (∀ h : HostId, (on.session h).state = .attached ∧ ∀ c ∈ Command.all, (on.port h).awaits c = true) ∧
    lengthOk .detach [1] = false ∧ paramsValid 1 (submitBytes.set 4 0x14) .submitJob = false ∧
    paramsValid 0 [0] .readJob = false ∧ paramsValid 0 [65] .drainResults = false ∧
    on.slotRuleAdmits 2 = true := by decide

theorem witness_AttachIsJudgedInOrder :
    (∀ h : HostId, (State.reset.port h).awaits .attach = true) ∧
    (HostOptions.parse [64, 0, 0, 0, 0, 0, 0x40, 0]).isSome = true ∧
    HostOptions.parse [65, 0, 0, 0, 0, 0, 0x40, 0] = none ∧
    HostOptions.parse [64, 0, 0, 0, 0, 0, 0x40, 1] = none := by decide

theorem witness_DetachTearsTheHostDown :
    (busy.port 0).awaits .detach = true ∧ (busy.session 0).state = .attached ∧
    (∀ c ∈ busy.completion, c.report.job.owner ≠ 0) ∧
    (∀ c ∈ (reportedWith allShares).completion, c.report.job.owner = 0 ∧ c.report.job.owner ≠ 1) := by decide

theorem witness_SetHostOptionsReplacesAllFive :
    (on.port 0).awaits .setHostOptions = true ∧ (on.session 0).state = .attached ∧
    HostOptions.parse [1, 0xFF, 0xFF, 0xFF, 1, 1, 0x40, 0] = some ⟨1, 0xFFFFFF, .discard, true, 16384⟩ ∧
    HostOptions.parse [64, 0, 0, 0, 0, 0, 0, 0] = some ⟨64, 0, .wait, false, 0⟩ ∧
    (on.session 0).options.fullPolicy = .wait := by decide

theorem witness_ReadStatusReportsTheHost : ∀ h : HostId, (on.port h).awaits .readStatus = true := by decide

/-- `on` with the slots of three hosts held. -/
def filled (a b c : Nat) : State := { on with jobs := holdings a b c }

theorem witness_SubmitJobAdmitsOrRefuses :
    (filled 12 8 4).slotRuleAdmits 2 = false ∧ (filled 0 0 4).slotRuleAdmits 2 = true ∧
    (∀ h : HostId, ((filled 12 8 4).port h).awaits .submitJob = true ∧
      ((filled 12 8 4).session h).state = .attached ∧ (parseJob h submitBytes).isSome = true) ∧
    lengthOk .submitJob submitBytes = true ∧
    (∀ j ∈ parseJob 1 submitBytes, j.id ∈ (filled 12 8 4).jobs.map Job.id ∧ j.source ≠ .now) ∧
    ∀ j ∈ parseJob 1 (submitBytes.set 4 0), j.source = .now := by decide

theorem witness_TheSlotRuleUpholdsItsLaw :
    (0 : HostId) ≠ 1 ∧ (1 : HostId) ≠ 2 ∧ (0 : HostId) ≠ 2 ∧
    (filled 16 0 0).slotLaw ∧ (filled 16 0 0).slotsHeld 0 = 16 ∧ (filled 16 0 0).slotRuleAdmits 0 = false ∧
    (∀ j ∈ parseJob 0 (submitBytes.set 0 99), j.id ∉ (filled 16 0 0).jobs.map Job.id) ∧
    (filled 9 9 2).slotLaw ∧ (filled 9 9 2).slotRuleAdmits 0 = true ∧
    (filled 12 8 3).slotLaw ∧ (filled 12 8 3).slotsHeld 2 = 3 := by decide

/-- Entry counts of 0, 1, 16 and 17 meet the count byte of the statement about Submit Job, and only 1 to
16 pass. -/
theorem witness_ASubmitJobIsReadAsLaidOut :
    ([0, 1, 16, 17] : List Nat).map (fun n =>
      let es : List (Byte × Byte × Byte) := List.replicate n (15, 0x0F, 0xFF)
      ((byteOf n).toNat == es.length,
        (parseJob 0 ([1, 1, 2, 0, 0x37, 3, 2, 0, 0, 1, byteOf n]
          ++ (es.map fun e => [e.1, e.2.1, e.2.2]).flatten)).map fun j => j.entries.length)) =
    [(true, none), (true, some 1), (true, some 16), (true, none)] := by decide

theorem witness_WithdrawJobRemovesTheJob :
    (busy.port 0).awaits .withdrawJob = true ∧ (busy.session 0).state = .attached ∧ (12 : Byte) ≠ 0 ∧
    (busy.findJob ⟨0, 12⟩).isSome = true ∧ busy.findJob ⟨0, 255⟩ = none ∧
    (∀ c ∈ busy.completion, c.report.job ≠ ⟨0, 12⟩) ∧
    (∀ c ∈ (reportedWith allShares).completion, c.report.job = ⟨0, 12⟩) ∧
    ((filled 4 0 0).findJob ⟨0, 1⟩).map Job.state = some .armed := by decide

theorem witness_ReadJobReportsTheRecord :
    (busy.port 0).awaits .readJob = true ∧ (busy.session 0).state = .attached ∧ (12 : Byte) ≠ 0 ∧
    (busy.findJob ⟨0, 12⟩).isSome = true ∧ busy.findJob ⟨0, 255⟩ = none := by decide

theorem witness_DrainCountsAreFixedAtJudgement :
    (on.session 0).state = .attached ∧ (on.port 0).awaits .drainResults = true ∧
    (on.port 0).awaits .readNotices = true ∧ 1 ≤ (1 : Byte).toNat ∧ (64 : Byte).toNat ≤ 64 ∧
    (16 : Byte).toNat ≤ 16 := by decide

theorem witness_ARecordLeavesWhenItsLastByteIsTransferred :
    ((draining 168 37).port 2).reply = some { body := .drain 3, transferred := 37 } ∧ 1 ≤ 3 ∧ 37 < 2 + 12 * 3 ∧
    (draining 168 37).outByte 2 ≠ none ∧ ((draining 168 37).resultQueue 2).records ≠ [] ∧
    ({ draining 168 0 with results := Table.make 3 {} } : State).outByte 2 ≠ none := by decide

/-- A Read Notices reply of one notice, or a Read Status reply, part-way on SPI port 0. -/
def replying (body : ReplyBody) (transferred : Nat) : State :=
  { on with
    notices := on.notices.put 0 { notices := [⟨.jobDone, 1, 1, 0⟩] }
    ports := on.ports.put 0
      { inFrame .reply none [] with reply := some { body, transferred }, statusSent := true } }

theorem witness_NoticesAndCountsLeaveWhenTransferred :
    ((replying (.notices 1) 9).port 0).reply = some { body := .notices 1, transferred := 9 } ∧
    (replying (.notices 1) 9).outByte 0 ≠ none ∧ 9 < 2 + 8 * 1 ∧
    ((replying (.status (List.replicate 29 0) 7) 12).port 0).reply =
      some { body := .status (List.replicate 29 0) 7, transferred := 12 } ∧
    (replying (.status (List.replicate 29 0) 7) 12).outByte 0 ≠ none ∧ 12 < 13 := by decide

theorem witness_ReplyBytesAreTransferredInOrder :
    (on.port 0).phase = .idle ∧ (on.port 2).readPhase ≠ .begun ∧
    (let s : State := { on with ports := on.ports.put 1 (inFrame .command none []) }
     (s.port 1).phase ≠ .idle ∧ (s.port 1).statusCapture ≠ none ∧ (s.port 1).statusSent = false ∧
     s.outByte 1 = some 0x80) ∧
    ([0, 1, 2, 9, 10] : List Nat).map (fun k => (replying (.notices 1) k).outByte 0) =
      [some 0, some 1, some 0x01, some 0, some 0x00] ∧
    ([0, 1, 2, 37, 38] : List Nat).map (fun k => (draining 168 k).outByte 2) =
      [some 0, some 3, some 1, some 0, some 0xFF] ∧
    ([1, 2, 37] : List Nat).map (fun k =>
      ({ draining 168 k with results := Table.make 3 {} } : State).outByte 2) =
      [some 3, some 0x00, some 0x00] ∧
    (replying (.status (List.replicate 29 5) 7) 12).outByte 0 = some 5 ∧
    (replying (.fixed [3]) 0).outByte 0 = some 3 ∧
    ((draining 168 37).port 2).readPhase = .begun ∧ ((draining 168 37).port 2).statusSent = true := by decide

theorem witness_ChannelCommandsObeyOwnership :
    ∀ h : HostId, (owned.session h).state = .attached ∧ (owned.port h).awaits .claimChannel = true ∧
      (owned.port h).awaits .releaseChannel = true ∧ (owned.port h).awaits .configureChannel = true := by decide

theorem witness_TriggerCommandsObeyOwnership :
    (on.session 0).state = .attached ∧
    (∀ c ∈ [Command.claimTrigger, .releaseTrigger, .stopTrigger, .programTrigger, .startTrigger],
      (on.port 0).awaits c = true) ∧
    (programParams [3, 0, 0, 0, 0, 0, 0, 0, 0xFF, 0xFF, 0, 9, 9]).map Prod.fst = some 3 ∧
    (programParams [0, 2, 0, 0, 0, 0, 0, 1, 15, 1, 1, 1, 1]).map Prod.fst = some 0 := by decide

theorem witness_StartTriggerBeginsARun :
    let s := bursting (burstGenerator .stopped)
    (s.session 0).state = .attached ∧ (s.port 0).awaits .startTrigger = true ∧
    (s.generator 2).owner = some 0 ∧ (s.generator 2).state = .stopped ∧ (s.generator 2).start ≠ .command := by
  decide

theorem witness_WatchCommandsObeyOwnership :
    (on.session 1).state = .attached ∧ (on.port 1).awaits .setWatch = true ∧
    (on.port 1).awaits .clearWatch = true ∧
    watchParams 1 [2, 6, 0x03, 0xE8, 0x0B, 0xB8, 1, 100, 1] = some (2, fedWatch .unknown) ∧
    (watchParams 1 [7, 15, 0x0F, 0xFF, 0x0F, 0xFF, 0, 255, 0]).map Prod.fst = some 7 := by decide

theorem witness_TableReadsReportTheEntry :
    (on.session 1).state = .attached ∧ (on.port 1).awaits .readChannel = true ∧
    (on.port 1).awaits .readTrigger = true ∧ (on.port 1).awaits .readWatch = true := by decide

theorem witness_AnArrivalActsByStateAndPolicy :
    ∀ p ∈ [RetriggerPolicy.ignore, .hold, .restart],
      ∀ st ∈ [JobState.armed, .ready, .running, .suspended],
        let j : Job := { job 1 20 .normal st with policy := p }
        ({ on with jobs := [j] } : State).findJob j.id = some j := by decide

/-- Each edge reaches the pin jobs of RISE, FALL and EITHER that it matches (R105). -/
theorem test_edges_and_pin_jobs :
    ([true, false] : List Bool).map (fun level =>
      after (.trigEdge 1 level ⟨[], []⟩)
        { on with
          trigSample := Table.make 2 (!level)
          jobs := [Source.pin 1 .rise, .pin 1 .fall, .pin 1 .either, .pin 0 .either].map fun x =>
            { job 0 (4 * x.byte + x.edgeByte) .normal .ready with source := x, policy := .hold } }
        fun t => t.jobs.map Job.pendingTrigger == [level, !level, true, false]) = [true, true] := by decide

theorem witness_AnArrivalActsByStateAndPolicy_restart :
    let j : Job := { job 1 20 .normal .running with policy := .restart }
    (converting j).findJob j.id = some j ∧ (converting j).executes j.id = true ∧
    ({ on with jobs := [j] } : State).executes j.id = false := by decide

theorem witness_AnEdgeStartsTheWaitingGenerators :
    let s : State := { bursting (burstGenerator .waitingEdge) with trigSample := Table.make 2 true }
    s.trigSample.get 0 = true ∧ s.trigSample.get 1 ≠ false ∧ (s.generator 2).state = .waitingEdge ∧
    (s.generator 2).start = .external 1 false := by decide

theorem witness_AFrameBeginsWithItsStatusCapture :
    (0 : HostId).val = (0 : SpiPort).val ∧ (1 : HostId).val = (1 : SpiPort).val ∧
    (on.port 2).phase = .idle ∧ ((draining 168 2).port 2).phase ≠ .idle := by decide

/-- `on` with host 2's port part-way through a frame. -/
def onI2c (p : Port) : State := { on with ports := on.ports.put 2 p }

theorem witness_BytesTakenMoveThePhase :
    (0 : HostId) ≠ 2 ∧
    (onI2c (inFrame .command none [])).i2cWrites = true ∧
    (onI2c (inFrame .command none [])).refusalOf 0x18 = none ∧ Command.ofCode 0x18 = some .drainResults ∧
    Command.ofCode 0x04 = some .readStatus ∧ Command.ofCode 0x05 = none ∧
    (onI2c (inFrame .parameters (some .submitJob) [])).refusalOf 5 = none ∧
    (onI2c (inFrame .parameters (some .drainResults) [])).refusalOf 8 = none ∧
    frameOf (.drainResults 2 8) = some (2, .drainResults, [8]) := by decide

theorem witness_TheI2cPortRefusesBytes :
    (onI2c (inFrame .command none [])).refusalOf 0x05 = some .unknownCommand ∧
    ({ filled 12 8 4 with ports := on.ports.put 2 (inFrame .command none []) } : State).refusalOf 0x10 =
      some .noSlot ∧
    (onI2c (inFrame .parameters (some .submitJob) submitBytes)).refusalOf 0 = some .frameError ∧
    (onI2c (inFrame .reply (some .drainResults) [8])).refusalOf 0 = some .frameError := by decide

theorem witness_ARepeatedStartBeginsTheReadPhase :
    ((onI2c (inFrame .command none [])).port 2).readPhase = .notBegun ∧
    ((draining 168 2).port 2).phase = .reply ∧ ((draining 168 2).port 2).readPhase ≠ .notBegun ∧
    ((onI2c (inFrame .discarding none [])).port 2).phase = .discarding ∧ (on.port 2).phase = .idle ∧
    (0x53 : BitVec 7) ≠ on.i2cAddress := by decide

theorem witness_AFrameEndActsByItsCase :
    (∃ port : SpiPort, FrameStop.csRise 1 true = .csRise port true ∧ (1 : HostId).val = port.val) ∧
    (on.port 1).phase = .idle ∧
    (inFrame .command none []).phase ≠ .idle ∧ (inFrame .command none []).command = none ∧
    (inFrame .parameters (some .submitJob) submitBytes).command = some Command.submitJob.code ∧
    (inFrame .parameters (some .submitJob) submitBytes).required = some submitBytes.length ∧
    (inFrame .parameters (some .detach) [1]).required ≠ some 1 ∧
    frameOf (.submitJob 1 submitBytes) = some (1, .submitJob, submitBytes) := ⟨⟨1, rfl, rfl⟩, by decide⟩

theorem witness_TicksCountDownAndHeadsGrowStale :
    on.completion = none ∧ awaitingWatches.completion ≠ none ∧
    (∀ g : GeneratorId, (on.generator g).remaining ≠ some 0) ∧ (∀ h : HostId, (on.session h).lease ≠ some 0) ∧
    ∀ h : HostId, (drained 165).headReached h ((drained 165).resultQueue h).records = true →
      ((drained 165).resultQueue h).staleMark = true := by decide

/-- A tick takes a lease expiry that is due and not yet taken, at the timebase before it (log entry
5). -/
theorem test_tick_takes_what_is_due :
    after .timebaseTick
      { on with
        timebase := 80000
        sessions := on.sessions.put 2 ⟨.attached, { leaseLength := 2 }, some 0⟩ } fun t =>
      (t.session 2).state == .lapsed && t.timebase == 80001 &&
      (t.noticeQueue 0).notices == [⟨.hostLeft, 2, 2, 80000⟩] := by decide

theorem witness_ACompletionUpdatesChannelAndQueue :
    let j : Job := job 0 12 .normal .running
    let s : State := { converting j with
      results := on.results.put 0 { accounts := ⟨none, some 1, none⟩ } }
    s.completion = none ∧ s.converter = some (context 0 12 (.converting 1013 ⟨1237, 4096⟩)) ∧
    on.completion = none ∧ (∀ ctx ∈ on.converter, ctx.phase = .sampling) ∧
    (∃ c ∈ (reportedWith allShares).completion, .job ∈ c.left) ∧ s.findJob ⟨0, 12⟩ = some j ∧
    j.state = .running ∧ j.dest = .queue ∧ s.account 0 j.cls = some (0 + 1) ∧
    (s.resultQueue 0).records = [] ∧
    selfWatching.converter = some (context 1 20 (.converting 1013 ⟨1237, 4096⟩)) ∧
    (selfWatching.watch 2).owner ≠ none ∧ (selfWatching.watch 2).channel = 5 ∧
    (selfWatching.watch 1).owner = none := by decide

theorem witness_AnUnreservedRecordIsPlacedOrDropped :
    let j : Job := job 0 12 .normal .running
    (converting j).findJob ⟨0, 12⟩ = some j ∧ j.dest = .queue ∧ (converting j).account 0 j.cls = none ∧
    (converting j).completion = none ∧
    (({ converting j with results := on.results.put 0 { records := List.replicate 64 (record 1 0) } }
      : State).resultQueue 0).freePlaces = 0 := by decide

theorem witness_AnEntryCompletionAdvancesTheCursor :
    let j : Job := { job 0 12 .normal .running with entries := List.replicate 16 ⟨5, 0⟩, cursor := 14 }
    (converting j).findJob ⟨0, 12⟩ = some j ∧ j.cursor + 1 < j.entries.length := by decide

theorem witness_APassEndNotifiesAndDisposes :
    let j : Job := job 0 12 .normal .running
    let full : State := { converting j with
      results := on.results.put 0 { records := List.replicate 64 (record 1 0) } }
    (converting j).findJob ⟨0, 12⟩ = some j ∧ j.entries.length ≤ j.cursor + 1 ∧ j.dest = .queue ∧
    ((converting j).resultQueue 0).records.length + ((converting j).resultQueue 0).reserved < 64 ∧
    full.findJob ⟨0, 12⟩ = some j ∧ (full.resultQueue 0).accounts.get j.cls = none ∧
    (full.resultQueue 0).records.length + (full.resultQueue 0).reserved = 64 := by decide

theorem witness_CodesStandForTheirBands :
    0 < AnalogInput.refin ⟨1237, 4096⟩ ∧ (context 0 12 .sampling).kind = .convert ∧
    ({ context 0 12 .sampling with rate := some .normal } : Context).rate = some .normal ∧
    ({ context 0 12 .sampling with kind := .compare, threshold := some 4095 } : Context).threshold = some 4095 :=
  by decide

/-- The values of R53 at the edges of its bands, for a reference of 4096 units. -/
theorem test_band_edges :
    ([-1, 0, 1, 4094, 4095, 5000] : List Int).map
      (fun v => ({ context 0 12 .sampling with rate := some .normal } : Context).value ⟨v, 4096⟩) =
      [0, 0, 1, 4094, 4095, 4095] ∧
    ([4094, 4095] : List Int).map
      (fun v => ({ context 0 12 .sampling with kind := .compare, threshold := some 4095, rate := none } :
        Context).value ⟨v, 4096⟩) = [0, 1] := by decide

theorem witness_AWatchOutOfAlertJudgesItsZone :
    (({ on with watches := on.watches.put 2 (fedWatch .clear) } : State).watch 2).state ≠ .alert ∧
    (fedWatch .clear).inZone 999 = true ∧ (fedWatch .clear).inZone 1000 = false ∧
    (fedWatch .clear).inZone 3000 = false ∧ (fedWatch .clear).inZone 3001 = true ∧
    ({ fedWatch .clear with zone := .inside } : Watch).inZone 1000 = true ∧
    ({ fedWatch .clear with zone := .inside } : Watch).inZone 999 = false := by decide

theorem witness_AWatchInAlertReleasesByItsBand :
    (({ on with watches := on.watches.put 2 (fedWatch .alert) } : State).watch 2).state = .alert ∧
    (fedWatch .alert).staysAlert 1099 = true ∧ (fedWatch .alert).staysAlert 1100 = false ∧
    (fedWatch .alert).staysAlert 2900 = false ∧ (fedWatch .alert).staysAlert 2901 = true := by decide

/-- The four lines of R130's table at the boundary counts. -/
theorem witness_APostIsStoredMarkedOrCountedAsLost :
    (State.reset.session 0).state ≠ .attached ∧ (on.session 0).state = .attached ∧
    ([(0, 15), (0, 16), (1, 14), (1, 15), (255, 16)] : List (Nat × Nat)).map (fun x =>
      let q := (NoticeQueue.mk (List.replicate x.2 ⟨.jobDone, 1, 1, 0⟩) x.1).take ⟨.overrun, 1, 1, 0⟩
      (q.lost, q.notices.length)) = [(0, 16), (1, 16), (0, 16), (2, 15), (255, 16)] := by decide

theorem witness_TheStatusByteCarriesItsIndications :
    State.reset.departedLaw ∧ 1 ≤ (State.reset.session 0).options.watermark ∧
    (State.reset.session 0).state ≠ .attached := by decide

/-- An idle converter with READY jobs of two hosts in NORMAL, the pointer at host 2. -/
def waiting : State :=
  { on with
    jobs := [job 1 3 .normal .ready, job 0 3 .normal .ready]
    ready := ⟨[], [⟨1, 3⟩, ⟨0, 3⟩], []⟩ }

/-- Section 11.1 at 510: rotation takes host 0 though host 1's job heads the list. -/
theorem witness_SelectionIsByClassThenRotation :
    waiting.chosenClass = some .normal ∧ waiting.chosenJob .normal = some (job 0 3 .normal .ready) ∧
    on.chosenClass = none ∧ on.chosenJob .normal = none ∧ waiting.marker.get .normal = none := by decide

/-- Eligibility at its boundary: one free place for one entry, and none (R32). -/
theorem test_eligible_by_free_places :
    ([63, 64] : List Nat).map (fun n =>
      ({ on with results := on.results.put 0 { records := List.replicate n (record 1 0) } } : State).eligible
        (job 0 3 .normal .ready)) = [true, false] := by decide

theorem witness_ASelectionResumesOrGrants :
    let j := job 0 3 .normal .ready
    let suspended : State :=
      { on with
        jobs := [{ j with state := .suspended }], marker := ⟨none, some j.id, none⟩ }
    waiting.converter = none ∧ (∀ x ∈ waiting.completion, .job ∉ x.left) ∧ waiting.findJob j.id = some j ∧ waiting.marker.get .normal = none ∧
    j.entries[0]? = some ⟨5, 0⟩ ∧ suspended.chosenClass = some .normal ∧
    suspended.findJob j.id = some { j with state := .suspended } ∧
    suspended.marker.get .normal = some j.id := by decide

theorem witness_UrgentWorkPreemptsALowerClass :
    busy.converter = some (context 0 12 (.converting 1013 ⟨1237, 4096⟩)) ∧
    busy.findJob ⟨0, 12⟩ = some (job 0 12 .normal .running) ∧
    (∃ c ∈ (reportedWith allShares).completion, .job ∈ c.left ∧ c.left = [.watch, .job, .select] ∧
      ∃ j ∈ (reportedWith allShares).findJob c.report.job, j.state = .running ∧
        j.cursor + 1 < j.entries.length) ∧
    (∃ c ∈ (reportedWith [.job, .select]).completion, .job ∈ c.left ∧ .watch ∉ c.left) ∧
    (reportedWith allShares).converter = none := by decide

end Sys2Proof.Tests
end

/-! PROOFS. The evaluation of a code by a watch (section 6.3): the alert zone and the release band as
sets of codes, the evaluation by the watch's state, and the two statements about it. -/

namespace Sys2Proof.Machine

/-! ### The alert zone and the release band -/

namespace Watch

/-- A code has 12 bits (00_scope.md, "Code"). -/
theorem code_in_range (v : Code) : 0#12 ≤ v ∧ v ≤ 4095#12 := by bv_omega

variable (w : Watch) (v : Code)

/-- The codes of the alert zone, by the zone's sense (R118). -/
theorem inZone_iff :
    w.inZone v = true ↔
      if w.zone = .inside then w.low ≤ v ∧ v ≤ w.high else v < w.low ∨ w.high < v := by
  unfold inZone
  cases w.zone <;> simp

/-- OUTSIDE over the whole code range alerts at no code (R118). -/
theorem inZone_outside_full (hz : w.zone = .outside) (hl : w.low = 0) (hh : w.high = 4095) :
    w.inZone v = false := by
  simp [inZone, hz, hl, hh, code_in_range v]

/-- INSIDE over the whole code range alerts at every code (R118). -/
theorem inZone_inside_full (hz : w.zone = .inside) (hl : w.low = 0) (hh : w.high = 4095) :
    w.inZone v = true := by
  simp [inZone, hz, hl, hh, code_in_range v]

/-- INSIDE over one code alerts at that code alone (R118). -/
theorem inZone_inside_single (hz : w.zone = .inside) (hb : w.low = w.high) :
    w.inZone v = true ↔ v = w.low := by
  have pinched : w.high ≤ v ∧ v ≤ w.high ↔ v = w.high := by bv_omega
  simpa [inZone, hz, hb] using pinched

/-- OUTSIDE over one code alerts at every code but that one (R118). -/
theorem inZone_outside_single (hz : w.zone = .outside) (hb : w.low = w.high) :
    w.inZone v = true ↔ v ≠ w.low := by
  have apart : v < w.high ∨ w.high < v ↔ v ≠ w.high := by bv_omega
  simpa [inZone, hz, hb] using apart

/-- A bound clamped into the code range (R120). -/
def clampCode (n : Int) : Int := max 0 (min 4095 n)

/-- L is the low bound moved outward for INSIDE and inward for OUTSIDE, then clamped (R119, R120). -/
theorem lowBound_eq_clampCode :
    (w.lowBound : Int) =
      if w.zone = .inside then clampCode (w.low.toNat - w.hysteresis.toNat)
      else clampCode (w.low.toNat + w.hysteresis.toNat) := by
  have := w.low.isLt
  unfold lowBound clampCode
  cases w.zone <;> simp only [reduceCtorEq, ↓reduceIte] <;> omega

/-- H is the high bound moved outward for INSIDE and inward for OUTSIDE, then clamped (R119, R120). -/
theorem highBound_eq_clampCode :
    (w.highBound : Int) =
      if w.zone = .inside then clampCode (w.high.toNat + w.hysteresis.toNat)
      else clampCode (w.high.toNat - w.hysteresis.toNat) := by
  have := w.high.isLt
  unfold highBound clampCode
  cases w.zone <;> simp only [reduceCtorEq, ↓reduceIte] <;> omega

/-- The codes that keep a watch in ALERT, by the zone's sense (R119, R120). -/
theorem staysAlert_iff :
    w.staysAlert v = true ↔
      if w.zone = .inside then
        clampCode (w.low.toNat - w.hysteresis.toNat) ≤ v.toNat ∧
          v.toNat ≤ clampCode (w.high.toNat + w.hysteresis.toNat)
      else
        v.toNat < clampCode (w.low.toNat + w.hysteresis.toNat) ∨
          clampCode (w.high.toNat - w.hysteresis.toNat) < v.toNat := by
  have low := w.lowBound_eq_clampCode
  have high := w.highBound_eq_clampCode
  unfold staysAlert
  cases hz : w.zone <;> simp only [hz, reduceCtorEq, ↓reduceIte] at low high ⊢ <;>
    simp [← low, ← high]

/-- In UNKNOWN and CLEAR the alert zone alone decides (R118). -/
theorem next_of_ne_alert (h : w.state ≠ .alert) :
    w.next v = if w.inZone v then .alert else .clear := by
  unfold next
  split
  · contradiction
  · rfl

/-- In ALERT the release band alone decides (R119). -/
theorem next_of_alert (h : w.state = .alert) :
    w.next v = if w.staysAlert v then .alert else .clear := by
  simp [next, h]

end Watch

/-! ### The evaluation by the watch's state -/

namespace State

variable {s : State} {w : WatchId} {h : HostId} {v : Code}

/-- To write back a watch unchanged changes nothing. -/
theorem setWatch_same : s.setWatch w (s.watch w) = s := by
  simp [setWatch, watch]

/-- R118, R122, R123: the zone entered, the notice stands before the firing; outside it nothing is
handed on. -/
theorem evaluate_of_ne_alert (hs : (s.watch w).state ≠ .alert) :
    s.evaluate w h v =
      if (s.watch w).inZone v then
        ((s.setWatch w { s.watch w with state := .alert }).post h .watchAlert (byteOf w.val)
          v.toNat).deliver (watchHits w)
      else s.setWatch w { s.watch w with state := .clear } := by
  simp only [evaluate, Watch.next_of_ne_alert _ v hs]
  by_cases hz : (s.watch w).inZone v = true <;> simp [hz, hs]

/-- R119, R122: kept in ALERT, the state is as it was; released, at most a notice is handed on. -/
theorem evaluate_of_alert (hs : (s.watch w).state = .alert) :
    s.evaluate w h v =
      if (s.watch w).staysAlert v then s
      else if (s.watch w).clearNotices then
        (s.setWatch w { s.watch w with state := .clear }).post h .watchClear (byteOf w.val) v.toNat
      else s.setWatch w { s.watch w with state := .clear } := by
  have unmoved : { s.watch w with state := .alert } = s.watch w := by rw [← hs]
  simp only [evaluate, Watch.next_of_alert _ v hs]
  by_cases hz : (s.watch w).staysAlert v = true
  · simp [hz, hs, unmoved, setWatch_same]
  · simp [hz, hs]

end State

/-! ### The statements -/

/-- Settles O51, by the evaluation outside ALERT and the codes of the alert zone. -/
theorem aWatchOutOfAlertJudgesItsZone : Obligations.AWatchOutOfAlertJudgesItsZone := by
  intro w h v s hs x zone
  have zone_iff : x.inZone v = true ↔ zone := x.inZone_iff v
  refine ⟨fun hz => ?enters, fun hz => ?clears, fun ho hl hh => ?empty, fun hi hl hh => ?full,
    fun hb => ⟨fun hi => ?only, fun ho => ?butOne⟩⟩
  case enters => exact (State.evaluate_of_ne_alert hs).trans (if_pos (zone_iff.mpr hz))
  case clears => exact (State.evaluate_of_ne_alert hs).trans (if_neg (mt zone_iff.mp hz))
  case empty => simp [← zone_iff, x.inZone_outside_full v ho hl hh]
  case full => exact zone_iff.mp (x.inZone_inside_full v hi hl hh)
  case only => exact zone_iff.symm.trans (x.inZone_inside_single v hi hb)
  case butOne => exact zone_iff.symm.trans (x.inZone_outside_single v ho hb)

/-- Settles O52, by the evaluation in ALERT and the codes outside the release band. -/
theorem aWatchInAlertReleasesByItsBand : Obligations.AWatchInAlertReleasesByItsBand := by
  intro w h v s hs x clamp y stays u
  have stays_iff : x.staysAlert v = true ↔ stays := x.staysAlert_iff v
  refine ⟨fun hst => ?keeps, fun hst => ?releases⟩
  case keeps => exact (State.evaluate_of_alert hs).trans (if_pos (stays_iff.mpr hst))
  case releases => exact (State.evaluate_of_alert hs).trans (if_neg (mt stays_iff.mp hst))

end Sys2Proof.Machine

/-! PROOFS. The notice queue's answer to a post (section 7.2) by the lost count and the free places, the
conditions of the interrupt line (section 7.4), and the two statements about them. -/

namespace Sys2Proof.Machine

/-! ### The four lines of R130's table -/

namespace NoticeQueue

variable {q : NoticeQueue} {n : Notice}

/-- R130, line 1: nothing is lost and there is room. -/
theorem take_stores (hl : q.lost = 0) (hf : 1 ≤ 16 - q.notices.length) :
    q.take n = { q with notices := q.notices ++ [n] } :=
  (if_pos hl).trans (if_pos hf)

/-- R130, line 2: a run of losses begins. -/
theorem take_starts_loss (hl : q.lost = 0) (hf : 16 - q.notices.length = 0) :
    q.take n = { q with lost := 1 } := by
  have full : ¬ 1 ≤ 16 - q.notices.length := by omega
  exact (if_pos hl).trans (if_neg full)

/-- R130, line 3: a run of losses ends, marked by the LOST notice ahead of the post. -/
theorem take_marks_loss (hl : 1 ≤ q.lost) (hf : 2 ≤ 16 - q.notices.length) :
    q.take n = ⟨q.notices ++ [⟨.lost, 0, BitVec.ofNat 16 q.lost, n.timestamp⟩, n], 0⟩ :=
  (if_neg (Nat.ne_zero_of_lt hl)).trans (if_pos hf)

/-- R130, line 4: a run of losses goes on while LOST and the notice behind it do not both fit. -/
theorem take_counts_loss (hl : 1 ≤ q.lost) (hf : 16 - q.notices.length ≤ 1) :
    q.take n = { q with lost := min 255 (q.lost + 1) } := by
  have cramped : ¬ 2 ≤ 16 - q.notices.length := by omega
  exact (if_neg (Nat.ne_zero_of_lt hl)).trans (if_neg cramped)

end NoticeQueue

namespace State

variable {s : State} {h : HostId} {kind : NoticeKind} {subject : Byte} {detail : Nat}

/-! ### Posts by the session's state (R126, R129) -/

/-- The queue of an ATTACHED host takes the notice, stamped with the timebase. -/
theorem post_of_attached (ha : (s.session h).state = .attached) :
    s.post h kind subject detail =
      s.setNoticeQueue h
        ((s.noticeQueue h).take ⟨kind, subject, BitVec.ofNat 16 detail, s.timebase⟩) :=
  if_pos ha

/-- A post to a host that is DETACHED or LAPSED is neither stored nor counted. -/
theorem post_of_not_attached (ha : (s.session h).state ≠ .attached) :
    s.post h kind subject detail = s :=
  if_neg ha

/-! ### The conditions of the interrupt line (R82, R83, R128) -/

theorem atWatermark_iff :
    s.atWatermark h = true ↔
      (s.session h).options.watermark ≤ (s.resultQueue h).records.length := by
  simp [atWatermark]

theorem stale_iff : s.stale h = true ↔ (s.resultQueue h).staleMark = true := Iff.rfl

theorem holdsNotices_iff : s.holdsNotices h = true ↔ (s.noticeQueue h).notices ≠ [] := by
  simp [holdsNotices]

/-- IRQh over the three conditions by name (R135). -/
theorem irqAsserted_iff :
    s.irqAsserted h = true ↔
      (s.session h).state = .attached ∧
        (s.atWatermark h = true ∨ s.stale h = true ∨
          s.holdsNotices h = true ∧ (s.session h).options.noticeInterrupt = true) := by
  simp [irqAsserted, or_assoc]

end State

/-! ### The statements -/

/-- Settles O53, by the session's state and the four lines of R130's table. -/
theorem aPostIsStoredMarkedOrCountedAsLost : Obligations.APostIsStoredMarkedOrCountedAsLost := by
  intro s h kind subject detail q n free put
  refine ⟨State.post_of_not_attached, fun ha => ?_⟩
  have taken {x : NoticeQueue} (hx : q.take n = x) : s.post h kind subject detail = put x :=
    (State.post_of_attached ha).trans (congrArg put hx)
  exact ⟨fun hl hf => taken (NoticeQueue.take_stores hl hf),
    fun hl hf => taken (NoticeQueue.take_starts_loss hl hf),
    fun hl hf => taken (NoticeQueue.take_marks_loss hl hf),
    fun hl hf => taken (NoticeQueue.take_counts_loss hl hf)⟩

/-- Settles O54, by the line over its named conditions and what each condition says. -/
theorem theInterruptLineFollowsItsConditions :
    Obligations.TheInterruptLineFollowsItsConditions := by
  intro s h
  rw [State.irqAsserted_iff, State.atWatermark_iff, State.stale_iff, State.holdsNotices_iff]

end Sys2Proof.Machine

/-! PROOFS. The rows of the 22 commands as the judgements of their frames (chapters 8 to 10): one
equation for all of them, the shared checks read through it, and the refusals that stand before a
command's own checks. -/

namespace Sys2Proof.Machine

/-! ### A command row as the judgement of its frame (R157, R159, R164) -/

/-- The judgement of a write-type row: for Submit Job with the early refusal in front (R17). -/
def judgeFrame (c : Command) (h : HostId) (params : List Byte) (s : State) : CmdOutcome × State :=
  match c with
  | .submitJob => judgeSubmitFrame h params s
  | c => judgeWrite c h params s

theorem judgeFrame_of_ne {c : Command} (hc : c ≠ .submitJob) (h : HostId) (params : List Byte)
    (s : State) : judgeFrame c h params s = judgeWrite c h params s := by
  unfold judgeFrame
  split
  · contradiction
  · rfl

/-- Every command row judges its frame, by the command's type. -/
theorem exec_command_row {i : Instr} {h : HostId} {c : Command} {params : List Byte}
    (hf : frameOf i = some (h, c, params)) (s : State) :
    exec i s = .next
      (if c.isRead then s.runRead h c params (answerRead c h params)
       else s.runWrite h c (judgeFrame c h params)) := by
  cases i <;> simp only [frameOf, reduceCtorEq, Option.some.injEq, Prod.mk.injEq] at hf <;>
    obtain ⟨rfl, rfl, rfl⟩ := hf <;> rfl

theorem exec_write_row {i : Instr} {h : HostId} {c : Command} {params : List Byte}
    (hf : frameOf i = some (h, c, params)) (hr : c.isRead = false) (s : State) :
    exec i s = .next (s.runWrite h c (judgeFrame c h params)) := by
  rw [exec_command_row hf, hr]; rfl

theorem exec_read_row {i : Instr} {h : HostId} {c : Command} {params : List Byte}
    (hf : frameOf i = some (h, c, params)) (hr : c.isRead = true) (s : State) :
    exec i s = .next (s.runRead h c params (answerRead c h params)) := by
  rw [exec_command_row hf, hr]; rfl

/-- The frame of a read-type row has the length of its command. -/
theorem lengthOk_of_read_row {i : Instr} {h : HostId} {c : Command} {params : List Byte}
    (hf : frameOf i = some (h, c, params)) (hr : c.isRead = true) : lengthOk c params = true := by
  cases i <;> simp only [frameOf, reduceCtorEq, Option.some.injEq, Prod.mk.injEq] at hf <;>
    obtain ⟨rfl, rfl, rfl⟩ := hf <;> cases hr <;> rfl

/-- Every write-type command but Attach is judged by the shared checks, its parameters by its form. -/
theorem judgeWrite_eq_judge {c : Command} (hr : c.isRead = false) (ha : c ≠ .attach) (h : HostId)
    (params : List Byte) (s : State) :
    ∃ (α : Type) (p : Option α) (act : α → CmdOutcome × State),
      judgeWrite c h params s = s.judge h (lengthOk c params) p act ∧
        p.isSome = paramsValid h params c := by
  cases c <;> cases hr
  case attach => contradiction
  all_goals exact ⟨_, _, _, rfl, rfl⟩

/-- Every read-type command but Read Status is answered behind the shared checks. -/
theorem answerRead_eq_answer {c : Command} (hr : c.isRead = true) (hs : c ≠ .readStatus) (h : HostId)
    (params : List Byte) (s : State) :
    ∃ (α : Type) (p : Option α) (reply : α → CmdOutcome × ReplyBody),
      answerRead c h params s = s.answer h p reply ∧ p.isSome = paramsValid h params c := by
  cases c <;> cases hr
  case readStatus => contradiction
  all_goals exact ⟨_, _, _, rfl, rfl⟩

namespace State

variable {s : State} {h : HostId} {c : Command} {params : List Byte}

/-- A write-type row ends its frame with what its judgement gives. -/
theorem runWrite_ends_of {judge : State → CmdOutcome × State} {o : CmdOutcome} {u : State}
    (ha : (s.port h).awaits c = true) (hj : judge s = (o, u)) :
    u.EndsFrame (s.runWrite h c judge) h o := by
  simpa [hj] using s.runWrite_ends h (judge := judge) ha

/-- A read-type row fixes the reply that its judgement gives. -/
theorem runRead_fixes_of {judge : State → CmdOutcome × ReplyBody} {r : CmdOutcome × ReplyBody}
    (ha : (s.port h).awaits c = true) (hj : judge s = r) :
    s.FixesReply (s.runRead h c params judge) h c params r.1 r.2 := by
  simpa [hj] using s.runRead_fixes h (params := params) (judge := judge) ha

/-- The slot rule of host 2 decides the early refusal while it is ATTACHED (R17). -/
theorem refusesEarly_of_attached (ha : (s.session 2).state = .attached) :
    s.refusesEarly = !s.slotRuleAdmits 2 := by
  simp [refusesEarly, ha]

/-- Where R17 does not apply, a Submit Job row is judged as its frame's end is. -/
theorem judgeSubmitFrame_of_not_early (hn : ¬ (h = 2 ∧ (s.port h).phase ≠ .parameters ∧ s.refusesEarly)) :
    judgeSubmitFrame h params s = judgeSubmitJob h params s :=
  if_neg hn

theorem judgeFrame_of_not_early
    (hn : c = .submitJob → h = 2 → (s.port 2).phase = .parameters ∨ s.refusesEarly = false) :
    judgeFrame c h params s = judgeWrite c h params s := by
  by_cases hc : c = .submitJob
  · subst hc
    refine judgeSubmitFrame_of_not_early ?_
    rintro ⟨rfl, hp, he⟩
    rcases hn rfl rfl with h1 | h1
    · exact hp h1
    · simp [h1] at he
  · exact judgeFrame_of_ne hc ..

/-- A row refused by the length check, or behind it for want of a session. -/
theorem judgeWrite_not_attached (hr : c.isRead = false) (hc : c ≠ .attach)
    (hs : (s.session h).state ≠ .attached) :
    judgeWrite c h params s =
      (if lengthOk c params then
        (if (s.session h).state = .lapsed then .lapsed else .notAttached) else .frameError, s) := by
  obtain ⟨α, p, act, hj, -⟩ := judgeWrite_eq_judge hr hc h params s
  cases hl : lengthOk c params with
  | true => rw [hj, judge_not_attached s h hl hs]; simp
  | false => rw [hj, hl, judge_wrong_length]; simp

/-- A row of an ATTACHED host refused by the length check, or behind it by the parameter check. -/
theorem judgeWrite_malformed (hr : c.isRead = false) (hc : c ≠ .attach)
    (hs : (s.session h).state = .attached)
    (hm : lengthOk c params = false ∨ paramsValid h params c = false) :
    judgeWrite c h params s = (if lengthOk c params then .badParam else .frameError, s) := by
  obtain ⟨α, p, act, hj, hv⟩ := judgeWrite_eq_judge hr hc h params s
  cases hl : lengthOk c params with
  | true =>
    have hp : p = none := by simpa [hl, ← hv] using hm
    rw [hj, hp, judge_bad_param s h hl hs]; rfl
  | false => rw [hj, hl, judge_wrong_length]; rfl

end State

/-! ### The statements -/

/-- Settles O1: the queue's front is what `step` matches on. -/
theorem stepTakesTheFrontCommand : Obligations.StepTakesTheFrontCommand := by
  intro c rest s hp
  unfold step
  rw [hp]

/-- Settles O13, by the shared checks of the write-type and of the read-type rows. -/
theorem commandsWithoutASessionAreRefused : Obligations.CommandsWithoutASessionAreRefused := by
  intro i h c params s hf ha hc hst hs o
  cases hr : c.isRead with
  | true =>
    obtain ⟨α, p, reply, hj, -⟩ := answerRead_eq_answer hr hst h params s
    refine ⟨_, exec_read_row hf hr s, ?_⟩
    exact State.runRead_fixes_of ha (hj.trans (State.answer_not_attached s h hs))
  | false =>
    have early : s.refusesEarly = false ∨ h ≠ 2 := by
      by_cases h2 : h = 2
      · subst h2; simp [State.refusesEarly, hs]
      · exact .inr h2
    have hj : judgeFrame c h params s = _ :=
      (State.judgeFrame_of_not_early fun _ h2 => .inr (early.resolve_right (· h2))).trans
        (State.judgeWrite_not_attached hr hc hs)
    refine ⟨_, exec_write_row hf hr s, ?_⟩
    have := State.runWrite_ends_of ha hj
    cases hl : lengthOk c params <;> simpa [hl] using this

/-- Settles O14, by the shared checks behind the early refusal of R17. -/
theorem malformedCommandsAreRefused : Obligations.MalformedCommandsAreRefused := by
  intro i h c params s hf ha hc hs hearly hm
  cases hr : c.isRead with
  | true =>
    have hst : c ≠ .readStatus := by
      rintro rfl
      simp [lengthOk_of_read_row hf hr, paramsValid] at hm
    obtain ⟨α, p, reply, hj, hv⟩ := answerRead_eq_answer hr hst h params s
    have hp : p = none := by
      simpa [lengthOk_of_read_row hf hr, ← hv] using hm
    refine ⟨_, exec_read_row hf hr s, ?_⟩
    exact State.runRead_fixes_of ha (hj.trans (by rw [hp, State.answer_bad_param s h hs]))
  | false =>
    have early : c = .submitJob → h = 2 → (s.port 2).phase = .parameters ∨ s.refusesEarly = false := by
      rintro hc rfl
      simpa [State.refusesEarly_of_attached hs] using hearly hc rfl
    have hj : judgeFrame c h params s = _ :=
      (State.judgeFrame_of_not_early early).trans (State.judgeWrite_malformed hr hc hs hm)
    refine ⟨_, exec_write_row hf hr s, ?_⟩
    have := State.runWrite_ends_of ha hj
    cases hl : lengthOk c params <;> simpa [hl] using this

end Sys2Proof.Machine

/-! PROOFS. The commands of the Channel Table, the generators and the watches (sections 3.6, 5.2, 6.2):
the judgement of each by owner and state, the replies of their reads, and the statements about them. -/

namespace Sys2Proof.Machine

/-! ### Ownership (R62, R64, R94, R114) -/

/-- A thing is closed to a host exactly while another host owns it. -/
theorem openTo_iff (owner : Option HostId) (h : HostId) :
    openTo owner h = true ↔ ¬ (owner ≠ none ∧ owner ≠ some h) := by
  simp [openTo, Decidable.or_iff_not_imp_left]

theorem openTo_eq_ite {α : Type} (owner : Option HostId) (h : HostId) (a b : α) :
    (if openTo owner h then a else b) = if owner ≠ none ∧ owner ≠ some h then b else a := by
  by_cases ho : owner ≠ none ∧ owner ≠ some h
  · rw [if_pos ho, if_neg (by rw [openTo_iff]; exact not_not_intro ho)]
  · rw [if_neg ho, if_pos ((openTo_iff owner h).mpr ho)]

namespace State

variable {s : State} {h : HostId}

/-- An ended frame whose outcome and state a condition picks. -/
theorem endsFrame_ite {q : Prop} [Decidable q] {t u v : State} {o o' : CmdOutcome}
    (e : (if q then (o, u) else (o', v)).2.EndsFrame t h (if q then (o, u) else (o', v)).1) :
    if q then u.EndsFrame t h o else v.EndsFrame t h o' := by
  split <;> simpa [*] using e

end State

/-! ### The judgements by owner and state -/

variable (s : State) (h : HostId)

theorem judgeClaimChannel_eq (hs : (s.session h).state = .attached) (c : ChannelId) :
    judgeClaimChannel h [byteOf c.val] s =
      if (s.channel c).owner ≠ none ∧ (s.channel c).owner ≠ some h then (.heldByOther, s)
      else (.ok, s.setChannel c { s.channel c with owner := some h }) := by
  rw [judgeClaimChannel, State.channelParam_byteOf, State.judge_accepts s h (show lengthOk .claimChannel _ = true from rfl) hs, openTo_eq_ite]

theorem judgeReleaseChannel_eq (hs : (s.session h).state = .attached) (c : ChannelId) :
    judgeReleaseChannel h [byteOf c.val] s =
      if (s.channel c).owner = some h then (.ok, s.setChannel c { s.channel c with owner := none })
      else (.notOwner, s) := by
  rw [judgeReleaseChannel, State.channelParam_byteOf, State.judge_accepts s h (show lengthOk .releaseChannel _ = true from rfl) hs]

/-- The bytes of Configure Channel for a setting and a rate (R64). -/
theorem configureParams_bytes (c : ChannelId) (setting : BitVec 2) (rate : Rate) :
    configureParams [byteOf c.val, byteOf setting.toNat, rate.code] = some (c, setting, rate) := by
  have hc : field [byteOf c.val, byteOf setting.toNat, rate.code] 0 1 = c.val := by
    simp [field, beNat, byteOf_toNat (show c.val < 256 by omega)]
  have hg : field [byteOf c.val, byteOf setting.toNat, rate.code] 1 1 = setting.toNat := by
    simp [field, beNat, byteOf_toNat (show setting.toNat < 256 by omega)]
  have hr : field [byteOf c.val, byteOf setting.toNat, rate.code] 2 1 = rate.code.toNat := by
    simp [field, beNat]
  have rates : Rate.ofCode rate.code.toNat = some rate := by cases rate <;> rfl
  have settings : below 4 setting.toNat = some ⟨setting.toNat, setting.isLt⟩ := dif_pos setting.isLt
  simp [configureParams, channelParam, hc, hg, hr, rates, settings, State.below_val]

theorem judgeConfigureChannel_eq (hs : (s.session h).state = .attached) (c : ChannelId)
    (setting : BitVec 2) (rate : Rate) :
    judgeConfigureChannel h [byteOf c.val, byteOf setting.toNat, rate.code] s =
      if (s.channel c).owner ≠ none ∧ (s.channel c).owner ≠ some h then (.heldByOther, s)
      else (.ok, s.setChannel c { s.channel c with setting := setting, rate := rate }) := by
  rw [judgeConfigureChannel, configureParams_bytes, State.judge_accepts s h (show lengthOk .configureChannel _ = true from rfl) hs]
  exact openTo_eq_ite ..

theorem judgeClaimTrigger_eq (hs : (s.session h).state = .attached) (g : GeneratorId) :
    judgeClaimTrigger h [byteOf g.val] s =
      if (s.generator g).owner ≠ none ∧ (s.generator g).owner ≠ some h then (.heldByOther, s)
      else (.ok, s.setGenerator g { s.generator g with owner := some h }) := by
  rw [judgeClaimTrigger, State.generatorParam_byteOf, State.judge_accepts s h (show lengthOk .claimTrigger _ = true from rfl) hs, openTo_eq_ite]

theorem judgeReleaseTrigger_eq (hs : (s.session h).state = .attached) (g : GeneratorId) :
    judgeReleaseTrigger h [byteOf g.val] s =
      if (s.generator g).owner = some h then (.ok, s.setGenerator g (s.generator g).released)
      else (.notOwner, s) := by
  rw [judgeReleaseTrigger, State.generatorParam_byteOf, State.judge_accepts s h (show lengthOk .releaseTrigger _ = true from rfl) hs]

theorem judgeStopTrigger_eq (hs : (s.session h).state = .attached) (g : GeneratorId) :
    judgeStopTrigger h [byteOf g.val] s =
      if (s.generator g).owner = some h then (.ok, s.setGenerator g (s.generator g).stopped)
      else (.notOwner, s) := by
  rw [judgeStopTrigger, State.generatorParam_byteOf, State.judge_accepts s h (show lengthOk .stopTrigger _ = true from rfl) hs]

theorem judgeProgramTrigger_eq (hs : (s.session h).state = .attached) {params : List Byte}
    {g : GeneratorId} {p : TriggerProgram} (hl : params.length = 13)
    (hp : programParams params = some (g, p)) :
    judgeProgramTrigger h params s =
      if (s.generator g).owner = some h then
        if (s.generator g).state = .stopped then
          (.ok, s.setGenerator g ((s.generator g).programmed p))
        else (.wrongState, s)
      else (.notOwner, s) := by
  have fits : lengthOk .programTrigger params = true := by
    rw [State.lengthOk_of_paramLength rfl, hl]; rfl
  rw [judgeProgramTrigger, hp, State.judge_accepts s h fits hs]

theorem judgeStartTrigger_eq (hs : (s.session h).state = .attached) (g : GeneratorId) :
    judgeStartTrigger h [byteOf g.val] s =
      if (s.generator g).owner = some h then
        if (s.generator g).state = .stopped then (.ok, s.startGenerator g) else (.wrongState, s)
      else (.notOwner, s) := by
  rw [judgeStartTrigger, State.generatorParam_byteOf, State.judge_accepts s h (show lengthOk .startTrigger _ = true from rfl) hs]

theorem judgeSetWatch_eq (hs : (s.session h).state = .attached) {params : List Byte} {w : WatchId}
    {y : Watch} (hl : params.length = 9) (hp : watchParams h params = some (w, y)) :
    judgeSetWatch h params s =
      if (s.watch w).owner ≠ none ∧ (s.watch w).owner ≠ some h then (.heldByOther, s)
      else (.ok, s.setWatch w y) := by
  have fits : lengthOk .setWatch params = true := by
    rw [State.lengthOk_of_paramLength rfl, hl]; rfl
  rw [judgeSetWatch, hp, State.judge_accepts s h fits hs]
  exact openTo_eq_ite ..

theorem judgeClearWatch_eq (hs : (s.session h).state = .attached) (w : WatchId) :
    judgeClearWatch h [byteOf w.val] s =
      if (s.watch w).owner = some h then (.ok, s.setWatch w (s.watch w).freed)
      else (.notOwner, s) := by
  rw [judgeClearWatch, State.watchParam_byteOf, State.judge_accepts s h (show lengthOk .clearWatch _ = true from rfl) hs]

/-- The record that Set Watch reads is owned by its sender, UNKNOWN, and its window is not inverted
(R113, R114). -/
theorem watchParams_record {params : List Byte} {w : WatchId} {y : Watch}
    (hp : watchParams h params = some (w, y)) :
    y.owner = some h ∧ y.state = .unknown ∧ y.low ≤ y.high := by
  simp only [watchParams, Option.bind_eq_bind, Option.bind_eq_some_iff] at hp
  obtain ⟨_, -, _, -, low, -, high, -, _, -, _, -, e⟩ := hp
  split at e
  · next hle =>
    obtain ⟨-, rfl⟩ := Prod.mk.inj (Option.some.inj e)
    exact ⟨rfl, rfl, hle⟩
  · cases e

/-- A start by command enters DELAYING and closes with an occasion; any other waits for its edge (R97,
R99). -/
theorem State.startGenerator_eq (g : GeneratorId) :
    s.startGenerator g =
      if (s.generator g).start ≠ .command then
        s.setGenerator g { s.generator g with firings := 0, accumulator := 0, state := .waitingEdge }
      else
        ((s.setGenerator g { s.generator g with firings := 0, accumulator := 0 }).enterDelaying
          g).schedule := by
  unfold startGenerator
  cases hx : (s.generator g).start <;> simp [hx]

/-- DELAYING with its count, or a firing in the same event (R99). -/
theorem State.enterDelaying_setGenerator (g : GeneratorId) (x : Generator) :
    (s.setGenerator g x).enterDelaying g =
      if x.delay ≠ 0 then
        s.setGenerator g { x with state := .delaying, remaining := some x.delay.toNat }
      else (s.setGenerator g { x with state := .delaying, remaining := none }).fireGenerator g := by
  have twice (y : Generator) : (s.setGenerator g x).setGenerator g y = s.setGenerator g y := by
    simp [setGenerator]
  simp only [enterDelaying, setGenerator_generator_self, twice, ne_eq, ite_not]

/-! ### The statements -/

variable {s h}

/-- Settles O30, by the three judgements of the Channel Table. -/
theorem channelCommandsObeyOwnership : Obligations.ChannelCommandsObeyOwnership := by
  intro h c setting rate s hs x held
  refine ⟨fun ha => ⟨_, rfl, ?claim⟩, fun ha => ⟨_, rfl, ?release⟩, fun ha => ⟨_, rfl, ?configure⟩⟩
  case claim =>
    have e := State.runWrite_ends s h (judge := judgeClaimChannel h [byteOf c.val]) ha
    rw [judgeClaimChannel_eq s h hs] at e
    exact State.endsFrame_ite e
  case release =>
    have e := State.runWrite_ends s h (judge := judgeReleaseChannel h [byteOf c.val]) ha
    rw [judgeReleaseChannel_eq s h hs] at e
    exact State.endsFrame_ite e
  case configure =>
    have e := State.runWrite_ends s h
      (judge := judgeConfigureChannel h [byteOf c.val, byteOf setting.toNat, rate.code]) ha
    rw [judgeConfigureChannel_eq s h hs] at e
    exact State.endsFrame_ite e

/-- Settles O31, by the four judgements of the generators. -/
theorem triggerCommandsObeyOwnership : Obligations.TriggerCommandsObeyOwnership := by
  intro h g s hs x put
  refine ⟨fun ha => ⟨_, rfl, ?claim⟩, fun ha => ⟨_, rfl, ?release⟩, fun ha => ⟨_, rfl, ?stop⟩,
    fun params p ha hl hp => ⟨_, rfl, ?program⟩⟩
  case claim =>
    have e := State.runWrite_ends s h (judge := judgeClaimTrigger h [byteOf g.val]) ha
    rw [judgeClaimTrigger_eq s h hs] at e
    exact State.endsFrame_ite e
  case release =>
    have e := State.runWrite_ends s h (judge := judgeReleaseTrigger h [byteOf g.val]) ha
    rw [judgeReleaseTrigger_eq s h hs] at e
    exact State.endsFrame_ite e
  case stop =>
    have e := State.runWrite_ends s h (judge := judgeStopTrigger h [byteOf g.val]) ha
    rw [judgeStopTrigger_eq s h hs] at e
    exact State.endsFrame_ite e
  case program =>
    have e := State.runWrite_ends s h (judge := judgeProgramTrigger h params) ha
    rw [judgeProgramTrigger_eq s h hs hl hp] at e
    by_cases ho : x.owner = some h
    · rw [if_pos ho] at e
      rw [if_neg (not_not_intro ho)]
      by_cases hx : x.state = .stopped
      · rw [if_pos hx] at e
        rwa [if_neg (not_not_intro hx)]
      · rw [if_neg hx] at e
        rwa [if_pos hx]
    · rw [if_neg ho] at e
      rwa [if_pos ho]

/-- Settles O32, by the judgement of Start Trigger and the way a generator enters DELAYING. -/
theorem startTriggerBeginsARun : Obligations.StartTriggerBeginsARun := by
  intro h g s hs ha x put fresh
  refine ⟨_, rfl, ?_⟩
  have e := State.runWrite_ends s h (judge := judgeStartTrigger h [byteOf g.val]) ha
  rw [judgeStartTrigger_eq s h hs, State.startGenerator_eq, State.enterDelaying_setGenerator] at e
  by_cases ho : x.owner = some h
  · rw [if_pos ho] at e
    rw [if_neg (not_not_intro ho)]
    by_cases hx : x.state = .stopped
    · rw [if_pos hx] at e
      rw [if_neg (not_not_intro hx)]
      by_cases hc : x.start ≠ .command
      · rw [if_pos hc] at e ⊢
        exact e
      · rw [if_neg hc] at e ⊢
        by_cases hd : x.delay ≠ 0
        · rw [if_pos hd] at e ⊢
          exact e
        · rw [if_neg hd] at e ⊢
          exact e
    · rw [if_neg hx] at e
      rwa [if_pos hx]
  · rw [if_neg ho] at e
    rwa [if_pos ho]

/-- Settles O34: the two expiry rows test exactly this. -/
theorem dueGeneratorsFire : Obligations.DueGeneratorsFire := by
  intro g s x
  have due (st : GeneratorState) : (s.generator g).due st = true ↔ x.state = st ∧ x.remaining = some 0 := by
    simp [Generator.due, x]
  constructor
  · exact congrArg Host.Outcome.next (if_congr (due .delaying) rfl rfl)
  · exact congrArg Host.Outcome.next (if_congr (due .running) rfl rfl)

/-- Settles O35, by the two judgements of the watches. -/
theorem watchCommandsObeyOwnership : Obligations.WatchCommandsObeyOwnership := by
  intro h w s hs x
  refine ⟨fun params y ha hl hp => ⟨_, rfl, ?set⟩, fun ha => ⟨_, rfl, ?clear⟩⟩
  case set =>
    obtain ⟨howner, hstate, -⟩ := watchParams_record h hp
    have e := State.runWrite_ends s h (judge := judgeSetWatch h params) ha
    rw [judgeSetWatch_eq s h hs hl hp] at e
    have e := State.endsFrame_ite e
    split
    · next hx => rwa [if_pos hx] at e
    · next hx =>
      rw [if_neg hx] at e
      exact ⟨howner, hstate, e⟩
  case clear =>
    have e := State.runWrite_ends s h (judge := judgeClearWatch h [byteOf w.val]) ha
    rw [judgeClearWatch_eq s h hs] at e
    exact State.endsFrame_ite e

/-- Settles O36: an accepted read fixes the entry's own reply. -/
theorem tableReadsReportTheEntry : Obligations.TableReadsReportTheEntry := by
  intro h c g w s hs owner x y z channel trigger watch
  have owners (o : Option HostId) : ownerByte o = owner o := by cases o <;> rfl
  have hx : x.reply = channel := by simp only [Channel.reply, owners]; rfl
  have hy : y.reply = trigger := by
    simp only [Generator.reply, owners, trigger]
    cases y.start <;> rfl
  have hz : z.reply = watch := by simp only [Watch.reply, owners]; rfl
  have starts : y.start.bytes.length = 3 := by cases y.start <;> rfl
  refine ⟨?_, ?_, ?_, fun ha => ⟨_, rfl, ?_⟩, fun ha => ⟨_, rfl, ?_⟩, fun ha => ⟨_, rfl, ?_⟩⟩
  · simp [channel]
  · rw [← hy]; simp [Generator.reply, starts]
  · simp [watch]
  · refine State.runRead_fixes_of (judge := answerReadChannel h _) (r := (.ok, .fixed channel)) ha ?_
    rw [answerReadChannel, State.channelParam_byteOf, State.answer_accepts s h hs, ← hx]
  · refine State.runRead_fixes_of (judge := answerReadTrigger h _) (r := (.ok, .fixed trigger)) ha ?_
    rw [answerReadTrigger, State.generatorParam_byteOf, State.answer_accepts s h hs, ← hy]
  · refine State.runRead_fixes_of (judge := answerReadWatch h _) (r := (.ok, .fixed watch)) ha ?_
    rw [answerReadWatch, State.watchParam_byteOf, State.answer_accepts s h hs, ← hz]

end Sys2Proof.Machine

/-! PROOFS. The commands of the sessions and of the Job Table (chapters 1 and 8), the read-type commands
of the queues and device reset: the form of a job at admission, the slot rule as arithmetic over the
slots held, and the statements about them. -/

namespace Sys2Proof.Machine

/-! ### A job at admission (section 1.2, R13, R16) -/

/-- A parameter field has as many bytes as its width at most, each below 256. -/
theorem field_one_lt (params : List Byte) (offset : Nat) : field params offset 1 < 256 := by
  unfold field
  cases params.drop offset with
  | nil => simp [beNat]
  | cons b _ => simpa [beNat] using b.isLt

theorem tagField_ne_zero {value : Nat} {tag : Byte} (hv : value < 256) (ht : tagField value = some tag) :
    tag ≠ 0 := by
  unfold tagField at ht
  split at ht
  · cases ht
  · next hz =>
    cases ht
    intro h0
    have := congrArg BitVec.toNat h0
    rw [byteOf_toNat hv] at this
    exact hz this

theorem countField_bounds {limit value n : Nat} (h : countField limit value = some n) :
    1 ≤ n ∧ n ≤ limit := by
  unfold countField at h
  split at h
  · next hb => cases h; exact hb
  · cases h

theorem length_of_mapM_option {α β : Type} {f : α → Option β} {l : List α} {l' : List β}
    (h : l.mapM f = some l') : l'.length = l.length := by
  induction l generalizing l' with
  | nil => simp_all
  | cons a l ih =>
    simp only [List.mapM_cons, Option.bind_eq_bind, Option.bind_eq_some_iff, Option.pure_def,
      Option.some.injEq] at h
    obtain ⟨b, -, bs, hbs, rfl⟩ := h
    simp [ih hbs]

/-- What a job's record holds when it takes its slot. -/
structure Job.AtAdmission (j : Job) (h : HostId) : Prop where
  owner : j.id.owner = h
  tag : j.id.tag ≠ 0
  entries : 1 ≤ j.entries.length ∧ j.entries.length ≤ 16
  state : j.state = if j.source = .now then .ready else .armed
  cursor : j.cursor = 0
  passesDone : j.passesDone = 0
  overruns : j.overruns = 0
  produced : j.produced = 0
  discarded : j.discarded = 0
  pending : j.pendingTrigger = false

/-- The fields that R13 lets through make such a record. -/
theorem parseJob_atAdmission {h : HostId} {params : List Byte} {j : Job}
    (hp : parseJob h params = some j) : j.AtAdmission h := by
  simp only [parseJob, Option.bind_eq_bind, Option.bind_eq_some_iff] at hp
  obtain ⟨tag, ht, _, -, _, -, _, -, _, -, _, -, _, -, count, hc, entries, he, e⟩ := hp
  split at e
  · cases e
    have hlen : entries.length = count := by simpa using length_of_mapM_option he
    exact ⟨rfl, tagField_ne_zero (field_one_lt ..) ht, by simpa [hlen] using countField_bounds hc,
      rfl, rfl, rfl, rfl, rfl, rfl, rfl⟩
  · cases e

theorem Job.AtAdmission.ready_iff {j : Job} {h : HostId} (a : j.AtAdmission h) :
    j.state = .ready ↔ j.source = .now := by
  rw [a.state]
  split <;> simp_all

/-! ### The slot rule (R15) -/

namespace State

variable (s : State)

theorem sum_allHosts {a b c : HostId} (hab : a ≠ b) (hbc : b ≠ c) (hac : a ≠ c) (f : HostId → Nat) :
    (allHosts.map f).sum = f a + f b + f c := by
  have order : allHosts.Perm [a, b, c] := by revert a b c; decide
  simpa [Nat.add_assoc] using (order.map f).sum_eq

theorem othersGuarantee_eq {a b c : HostId} (hab : a ≠ b) (hbc : b ≠ c) (hac : a ≠ c) :
    s.othersGuarantee a = (4 - s.slotsHeld b) + (4 - s.slotsHeld c) := by
  have order : (allHosts.filter (· != a)).Perm [b, c] := by revert a b c; decide
  simpa [othersGuarantee, unusedGuarantee, Config.slotGuarantee] using (order.map s.unusedGuarantee).sum_eq

/-- The slots held by the three hosts are the occupied slots. -/
theorem slotsHeld_sum {a b c : HostId} (hab : a ≠ b) (hbc : b ≠ c) (hac : a ≠ c) :
    s.slotsHeld a + s.slotsHeld b + s.slotsHeld c = s.jobs.length := by
  have one (x : HostId) : (if x = a then 1 else 0) + (if x = b then 1 else 0) +
      (if x = c then 1 else 0) = 1 := by revert a b c x; decide
  unfold slotsHeld
  induction s.jobs with
  | nil => rfl
  | cons j l ih =>
    have := one j.id.owner
    simp only [List.countP_cons, beq_iff_eq, List.length_cons]
    omega

theorem slotLaw_iff {a b c : HostId} (hab : a ≠ b) (hbc : b ≠ c) (hac : a ≠ c) :
    s.slotLaw ↔ s.jobs.length + ((4 - s.slotsHeld a) + (4 - s.slotsHeld b) + (4 - s.slotsHeld c)) ≤ 24 := by
  unfold slotLaw
  rw [sum_allHosts hab hbc hac]
  rfl

theorem slotRuleAdmits_iff {a b c : HostId} (hab : a ≠ b) (hbc : b ≠ c) (hac : a ≠ c) :
    s.slotRuleAdmits a = true ↔
      if s.slotsHeld a < 4 then s.jobs.length < 24
      else (4 - s.slotsHeld b) + (4 - s.slotsHeld c) + 1 ≤ 24 - s.jobs.length := by
  have rule : s.slotRuleAdmits a =
      if s.slotsHeld a < 4 then decide (0 < 24 - s.jobs.length)
      else decide (s.othersGuarantee a + 1 ≤ 24 - s.jobs.length) := rfl
  rw [rule, s.othersGuarantee_eq hab hbc hac]
  split
  · rw [decide_eq_true_iff]; omega
  · rw [decide_eq_true_iff]

theorem slotsHeld_append (j : Job) (h : HostId) :
    ({ s with jobs := s.jobs ++ [j] } : State).slotsHeld h =
      s.slotsHeld h + if j.id.owner = h then 1 else 0 := by
  simp [slotsHeld, List.countP_append, List.countP_cons]

/-- An admission by the slot rule keeps the law (R15). -/
theorem slotLaw_append {j : Job} (hs : s.slotLaw) (ha : s.slotRuleAdmits j.id.owner = true) :
    ({ s with jobs := s.jobs ++ [j] } : State).slotLaw := by
  obtain ⟨b, c, hab, hbc, hac⟩ : ∃ b c : HostId, j.id.owner ≠ b ∧ b ≠ c ∧ j.id.owner ≠ c := by
    generalize j.id.owner = a
    revert a; decide
  have sum := s.slotsHeld_sum hab hbc hac
  rw [slotLaw_iff _ hab hbc hac] at hs ⊢
  rw [s.slotRuleAdmits_iff hab hbc hac] at ha
  simp only [slotsHeld_append, if_neg hab, if_neg hac, ↓reduceIte, List.length_append,
    List.length_singleton]
  split at ha <;> omega

/-! ### The judgements of the Job Table's commands -/

variable {s} {h : HostId} {params : List Byte} {j : Job}

theorem findJob_isSome_iff {id : JobId} : (s.findJob id).isSome = true ↔ id ∈ s.jobs.map Job.id := by
  rw [← not_iff_not, Bool.not_eq_true, Option.isSome_eq_false_iff, Option.isNone_iff_eq_none, findJob_none]

/-- Behind the early refusal: the tag, then the slot rule (R14, R15). -/
theorem judgeSubmitJob_eq (hs : (s.session h).state = .attached) (hl : lengthOk .submitJob params = true)
    (hp : parseJob h params = some j) :
    judgeSubmitJob h params s =
      if j.id ∈ s.jobs.map Job.id then (.tagInUse, s)
      else if s.slotRuleAdmits h = true then (.ok, s.admitJob j)
      else (.noSlot, s) := by
  rw [judgeSubmitJob, hp, judge_accepts s h hl hs]
  exact if_congr findJob_isSome_iff rfl rfl

/-- An admitted job takes a slot; one with source NOW joins its Ready List and calls for a selection
(R16). -/
theorem admitJob_eq (ha : j.AtAdmission h) :
    s.admitJob j =
      if j.source = .now then
        State.schedule { s with jobs := s.jobs ++ [j], ready := s.ready.put j.cls (s.ready.get j.cls ++ [j.id]) }
      else { s with jobs := s.jobs ++ [j] } :=
  if_congr ha.ready_iff rfl rfl

end State

/-! ### Attach (R143, R144) -/

theorem lengthOk_attach (params : List Byte) :
    lengthOk .attach params = true ↔ ¬ (params.length ≠ 0 ∧ params.length ≠ 8) := by
  cases params with
  | nil => decide
  | cons b bs =>
    simp only [lengthOk, requiredLength, List.isEmpty_cons, List.length_cons, beq_iff_eq,
      Option.some.injEq]
    simp only [Bool.false_eq_true, ↓reduceIte]
    omega

theorem attachOptions_eq (params : List Byte) :
    attachOptions params = if params = [] then some {} else HostOptions.parse params := by
  cases params <;> rfl

theorem judgeAttach_eq (h : HostId) (params : List Byte) (s : State) :
    judgeAttach h params s =
      if params.length ≠ 0 ∧ params.length ≠ 8 then (.frameError, s)
      else if (s.session h).state = .attached then (.wrongState, s)
      else
        match attachOptions params with
        | none => (.badParam, s)
        | some o => (.ok, s.openSession h o) := by
  unfold judgeAttach
  by_cases hl : params.length ≠ 0 ∧ params.length ≠ 8
  · rw [if_pos hl, if_neg (by rw [lengthOk_attach]; exact not_not_intro hl)]
  · rw [if_neg hl]
    exact if_pos ((lengthOk_attach params).mpr hl)

/-! ### The entry places of Read Job (R181) -/

/-- An entry place: an entry's three bytes, or zeros. -/
def entryPlace (entries : List Entry) (i : Nat) : List Byte :=
  match entries[i]? with
  | some e => [byteOf e.channel.val] ++ beBytes 2 e.threshold.toNat
  | none => [0, 0, 0]

theorem entryPlaces_take (entries : List Entry) (n : Nat) :
    ((entries.map Entry.bytes).flatten ++ List.replicate (3 * n) 0).take (3 * n) =
      ((List.range n).map (entryPlace entries)).flatten := by
  induction n generalizing entries with
  | zero => simp
  | succ n ih =>
    rw [List.range_succ_eq_map, List.map_cons, List.map_map, List.flatten_cons,
      show 3 * (n + 1) = 3 + 3 * n by omega]
    cases entries with
    | nil =>
      have := ih []
      simp only [List.map_nil, List.flatten_nil, List.nil_append] at this ⊢
      have first : List.replicate (3 + 3 * n) (0 : Byte) = [0, 0, 0] ++ List.replicate (3 * n) 0 := by
        rw [← List.replicate_append_replicate]; rfl
      rw [first]
      change List.take (([0, 0, 0] : List Byte).length + 3 * n) _ = _
      rw [List.take_length_add_append, this]
      rfl
    | cons e es =>
      have hl : e.bytes.length = 3 := by simp [Entry.bytes]
      have places : entryPlace (e :: es) ∘ Nat.succ = entryPlace es := by
        funext i; simp [entryPlace]
      rw [List.map_cons, List.flatten_cons, List.append_assoc, ← hl, List.take_length_add_append, hl, places,
        ← ih es]
      congr 1
      rw [List.take_append, List.take_append]
      congr 1
      simp only [List.take_replicate]
      congr 1
      omega

theorem entryPlaces_eq (j : Job) : j.entryPlaces = ((List.range 16).map (entryPlace j.entries)).flatten :=
  entryPlaces_take j.entries 16

theorem entryPlaces_length (j : Job) : j.entryPlaces.length = 48 := by
  simp [Job.entryPlaces]

/-! ### Set Host Options (R83, R146, R147) -/

namespace State

/-- The age test of a head against an interval (R83). -/
theorem headReached_eq (s : State) (h : HostId) (records : List ResultRecord) :
    s.headReached h records =
      match records with
      | [] => false
      | r :: _ => decide ((s.session h).options.staleInterval ≠ 0 ∧
          (s.session h).options.staleInterval ≤ (s.timebase - r.timestamp).toNat) := by
  cases records with
  | nil => rfl
  | cons r _ => exact (Bool.decide_and ..).symm

/-- The options replaced, the lease timer restarted and the head tested, before the occasion (R83, R146,
R147). -/
def withOptions (s : State) (h : HostId) (o : HostOptions) : State :=
  { s with
    sessions := s.sessions.put h ⟨(s.session h).state, o, leaseOf o.leaseLength⟩
    results := s.results.put h
      { s.resultQueue h with
        staleMark := match (s.resultQueue h).records with
          | [] => false
          | r :: _ => decide (o.staleInterval ≠ 0 ∧
              o.staleInterval ≤ (s.timebase - r.timestamp).toNat) } }

theorem replaceOptions_eq (s : State) (h : HostId) (o : HostOptions) :
    s.replaceOptions h o =
      if (s.session h).options.fullPolicy = .wait ∧ o.fullPolicy = .discard then
        (s.withOptions h o).schedule
      else s.withOptions h o := by
  have restarted : (s.setSession h { s.session h with options := o }).restartLease h =
      s.setSession h ⟨(s.session h).state, o, leaseOf o.leaseLength⟩ := by
    rw [restartLease, setSession_session_self]
    simp [setSession, leaseTicks_eq]
  simp only [replaceOptions, restarted, testStale, headReached_eq, setSession_session_self,
    Bool.and_eq_true, beq_iff_eq]
  rfl

theorem judgeSetHostOptions_eq {s : State} {h : HostId} {params : List Byte} {o : HostOptions}
    (hs : (s.session h).state = .attached) (hl : params.length = 8)
    (hp : HostOptions.parse params = some o) :
    judgeSetHostOptions h params s = (.ok, s.replaceOptions h o) := by
  have fits : lengthOk .setHostOptions params = true := by
    rw [lengthOk_of_paramLength rfl, hl]; rfl
  rw [judgeSetHostOptions, hp, judge_accepts s h fits hs]

end State

/-! ### The statements -/

/-- Settles O15, by the judgement of Attach in its own order. -/
theorem attachIsJudgedInOrder : Obligations.AttachIsJudgedInOrder := by
  intro h params s ha
  refine ⟨_, rfl, ?_⟩
  have e := s.runWrite_ends h (judge := judgeAttach h params) ha
  rw [judgeAttach_eq, attachOptions_eq] at e
  by_cases hl : params.length ≠ 0 ∧ params.length ≠ 8
  · rw [if_pos hl] at e ⊢
    exact e
  · rw [if_neg hl] at e ⊢
    by_cases hs : (s.session h).state = .attached
    · rw [if_pos hs] at e ⊢
      exact e
    · rw [if_neg hs] at e ⊢
      cases ho : (if params = [] then some {} else HostOptions.parse params) with
      | none =>
        rw [ho] at e
        exact e
      | some o =>
        rw [ho] at e
        exact e

/-- Settles O18, by the options replaced and the occasion of a change to DISCARD. -/
theorem setHostOptionsReplacesAllFive : Obligations.SetHostOptionsReplacesAllFive := by
  intro h params o s ha hs hl hp stale u freed
  refine ⟨_, rfl, ?_⟩
  have e := State.runWrite_ends_of ha (State.judgeSetHostOptions_eq hs hl hp)
  rw [State.replaceOptions_eq, State.withOptions, hs] at e
  constructor
  · intro hf
    rw [if_pos hf] at e
    exact e
  · intro hf
    rw [if_neg hf] at e
    exact e

/-- Settles O19: Read Status is judged without a check. -/
theorem readStatusReportsTheHost : Obligations.ReadStatusReportsTheHost := by
  intro h s ha q o bytes
  refine ⟨by simp [bytes], _, rfl, ?_⟩
  have reply : s.statusReply h = bytes := by
    have policy : o.fullPolicy.code = if o.fullPolicy = .discard then 1 else 0 := by
      cases o.fullPolicy <;> rfl
    simp only [State.statusReply, HostOptions.bytes, bytes, ← policy, List.append_assoc]
    rfl
  rw [← reply]
  exact s.runRead_fixes h ha

/-- Settles O22, by the judgement of Submit Job behind the early refusal. -/
theorem submitJobAdmitsOrRefuses : Obligations.SubmitJobAdmitsOrRefuses := by
  intro h params j s ha hs hl hp u
  refine ⟨_, rfl, ?_⟩
  have e := s.runWrite_ends h (judge := judgeSubmitFrame h params) ha
  by_cases hearly : h = 2 ∧ (s.port h).phase ≠ .parameters ∧ s.slotRuleAdmits h = false
  · have early : judgeSubmitFrame h params s = (.noSlot, s) := by
      obtain ⟨rfl, hph, hsl⟩ := hearly
      exact if_pos ⟨rfl, hph, by rw [State.refusesEarly_of_attached hs, hsl]; rfl⟩
    rw [if_pos hearly]
    rwa [early] at e
  · have late : judgeSubmitFrame h params s = judgeSubmitJob h params s := by
      refine State.judgeSubmitFrame_of_not_early ?_
      rintro ⟨rfl, hph, he⟩
      rw [State.refusesEarly_of_attached hs, Bool.not_eq_true'] at he
      exact hearly ⟨rfl, hph, he⟩
    rw [if_neg hearly]
    rw [late, State.judgeSubmitJob_eq hs hl hp, State.admitJob_eq (parseJob_atAdmission hp)] at e
    by_cases ht : j.id ∈ s.jobs.map Job.id
    · rw [if_pos ht] at e ⊢
      exact e
    · rw [if_neg ht] at e ⊢
      by_cases hr : s.slotRuleAdmits h = true
      · rw [if_pos hr] at e
        rw [if_neg (by simp [hr])]
        by_cases hn : j.source = .now
        · rw [if_pos hn] at e ⊢
          exact e
        · rw [if_neg hn] at e ⊢
          exact e
      · rw [if_neg hr] at e
        rw [if_pos (by simpa using hr)]
        exact e

/-- Settles O23, by the rule and its law as arithmetic over the slots held. -/
theorem theSlotRuleUpholdsItsLaw : Obligations.TheSlotRuleUpholdsItsLaw := by
  intro s a b c hab hbc hac
  have sum := s.slotsHeld_sum hab hbc hac
  refine ⟨s.slotRuleAdmits_iff hab hbc hac, ?law, fun params j ha hs hl hp hn hr => ⟨_, rfl, ?refused⟩,
    fun hlaw => ⟨fun h4 => ?few, ?most, fun h16 => ?full, fun j ho hadm => ?admission⟩⟩
  case law =>
    rw [s.slotLaw_iff hab hbc hac]
    omega
  case refused =>
    refine State.runWrite_ends_of ha ?_
    by_cases hearly : a = 2 ∧ (s.port a).phase ≠ .parameters ∧ s.refusesEarly
    · exact if_pos hearly
    · rw [State.judgeSubmitFrame_of_not_early hearly, State.judgeSubmitJob_eq hs hl hp, if_neg hn,
        if_neg (by simp [hr])]
  case few =>
    rw [s.slotLaw_iff hab hbc hac] at hlaw
    rw [s.slotRuleAdmits_iff hab hbc hac, if_pos h4]
    omega
  case most =>
    rw [s.slotLaw_iff hab hbc hac] at hlaw
    omega
  case full =>
    rw [s.slotLaw_iff hab hbc hac] at hlaw
    omega
  case admission => exact s.slotLaw_append hlaw (ho ▸ hadm)

/-- Settles O25, by the job's reply and its sixteen entry places. -/
theorem readJobReportsTheRecord : Obligations.ReadJobReportsTheRecord := by
  intro h tag s ha hs ht
  refine ⟨_, rfl, ?_⟩
  have answer : answerReadJob h [tag] s =
      match s.findJob ⟨h, tag⟩ with
      | none => refusalReply .noSuchJob
      | some j => (.ok, .fixed j.reply) := by
    rw [answerReadJob, State.tagParam_singleton ht]
    exact State.answer_accepts s h hs
  have e := s.runRead_fixes h (params := [tag]) (judge := answerReadJob h [tag]) ha
  cases hj : s.jobs.find? (fun j => j.id == ⟨h, tag⟩) with
  | none =>
    rw [answer, show s.findJob ⟨h, tag⟩ = none from hj] at e
    exact e
  | some j =>
    rw [answer, show s.findJob ⟨h, tag⟩ = some j from hj] at e
    have marks : j.marksByte = (if j.redo then 1 else 0) + (if j.restarted then 2 else 0)
        + (if j.overrunReported then 4 else 0) := by
      unfold Job.marksByte
      cases j.redo <;> cases j.restarted <;> cases j.overrunReported <;> rfl
    have size : j.reply.length = 69 := by simp [Job.reply, entryPlaces_length]
    dsimp only at e
    rw [Job.reply, entryPlaces_eq, marks] at size e
    exact ⟨size, e⟩

/-- Settles O26: an accepted count is the smaller of the maximum and what is held. -/
theorem drainCountsAreFixedAtJudgement : Obligations.DrainCountsAreFixedAtJudgement := by
  intro h maximum s hs
  have count {limit : Nat} (h1 : 1 ≤ maximum.toNat) (h2 : maximum.toNat ≤ limit) :
      countField limit (field [maximum] 0 1) = some maximum.toNat := by
    rw [State.field_singleton]
    exact if_pos ⟨h1, h2⟩
  constructor
  · intro ha h1 h2
    refine ⟨_, rfl, State.runRead_fixes_of (r := (_, _)) ha ?_⟩
    rw [answerDrainResults, count h1 h2, State.answer_accepts s h hs]
  · intro ha h1 h2
    refine ⟨_, rfl, State.runRead_fixes_of (r := (_, _)) ha ?_⟩
    rw [answerReadNotices, count h1 h2, State.answer_accepts s h hs]

/-- Settles O45, by the converter's context and its phase. -/
theorem theSamplingPhaseEndsWithATimestamp : Obligations.TheSamplingPhaseEndsWithATimestamp := by
  intro input s
  simp only [exec, execSamplingPhaseEnd]
  cases hc : s.completion with
  | some c =>
    cases hx : s.converter <;> simp
  | none =>
    cases hx : s.converter with
    | none => rfl
    | some ctx => cases hp : ctx.phase <;> simp [hc, hp, State.setConverter]

/-- Settles O60: every block of the state after reset is a table of one value. -/
theorem deviceResetRestoresEveryBlock : Obligations.DeviceResetRestoresEveryBlock := by
  intro straps s
  refine ⟨_, rfl, rfl, rfl, ?_, ?_, rfl, rfl, fun c => by cases c <;> exact ⟨rfl, rfl, rfl⟩, rfl, rfl,
    fun c => Table.get_make .., fun g => Table.get_make .., fun w => Table.get_make ..,
    fun h => ⟨Table.get_make .., Table.get_make .., Table.get_make .., Table.get_make .., ?_⟩, rfl⟩
  · exact (Table.get_put_ne _ _ (by decide)).trans (Table.get_put_self ..)
  · exact Table.get_put_self ..
  · simp [State.irqAsserted, State.session, State.afterReset]

end Sys2Proof.Machine

/-! PROOFS. What a row can do, said once: every row is a sequence of the events below, each under the
condition under which the rows make it. An invariant is kept by every step once it is kept by these. -/

namespace Sys2Proof.Machine

/-! ### The conditions of the events -/

/-- A port in IDLE keeps nothing of a frame but the last outcome (R159). -/
def Port.Sound (p : Port) : Prop := p.phase = .idle → p = { lastOutcome := p.lastOutcome }

theorem Port.sound_of_busy {p : Port} (hp : p.phase ≠ .idle) : p.Sound := fun h => absurd h hp

/-- What a command of an ATTACHED host changes in a channel: owner, setting and rate (R62, R63, R64). -/
structure Channel.Edit (attached : HostId → Prop) (x y : Channel) : Prop where
  owner : ∀ h ∈ y.owner, x.owner = some h ∨ attached h
  latest : y = { x with setting := y.setting, rate := y.rate, owner := y.owner }

/-- What a command of an ATTACHED host changes in a generator, a start by command left out (R94, R95,
R96, R97, R102). -/
inductive Generator.Edit (attached : HostId → Prop) (x : Generator) : Generator → Prop where
  | claim (h : HostId) (ha : attached h) : Edit attached x { x with owner := some h }
  | release : Edit attached x x.released
  | program (p : TriggerProgram) (hp : p.fits = true) : Edit attached x (x.programmed p)
  | stop : Edit attached x x.stopped

/-- What a command of an ATTACHED host changes in a watch (R114, R115). -/
structure Watch.Edit (attached : HostId → Prop) (x y : Watch) : Prop where
  owner : ∀ h ∈ y.owner, attached h
  unknown : y.state = .unknown
  window : x.low ≤ x.high → y.low ≤ y.high

/-- A withdrawal behind a report of the job (R24, R25). -/
def State.withdrawal (s : State) (id : JobId) : State :=
  let v := s.settle [.job] (· == id)
  match v.findJob id with
  | none => v
  | some j => v.withdraw j

/-! ### The events -/

/-- One thing that happens within a row. -/
inductive Event : State → State → Prop where
  | port (s : State) (h : HostId) (p : Port) (sound : (s.port h).Sound → p.Sound) :
      Event s (s.setPort h p)
  | renewed (s : State) (h : HostId) (ha : s.isAttached h) : Event s (s.restartLease h)
  | opened (s : State) (h : HostId) (o : HostOptions) (ha : ¬ s.isAttached h) :
      Event s (s.openSession h o)
  | torn (s : State) (h : HostId) (ended : SessionState) (ha : s.isAttached h)
      (he : ended ≠ .attached) : Event s (s.teardown h ended)
  | optionsReplaced (s : State) (h : HostId) (o : HostOptions) (ha : s.isAttached h) :
      Event s (s.replaceOptions h o)
  | admission (s : State) (h : HostId) (j : Job) (ha : s.isAttached h) (hj : j.AtAdmission h)
      (fresh : s.findJob j.id = none) (slot : s.slotRuleAdmits h = true) : Event s (s.admitJob j)
  | withdrawn (s : State) (id : JobId) : Event s (s.withdrawal id)
  | channel (s : State) (c : ChannelId) (x : Channel) (hx : (s.channel c).Edit s.isAttached x) :
      Event s (s.setChannel c x)
  | generator (s : State) (g : GeneratorId) (x : Generator)
      (hx : (s.generator g).Edit s.isAttached x) : Event s (s.setGenerator g x)
  | started (s : State) (g : GeneratorId) (owned : (s.generator g).owner ≠ none)
      (stopped : (s.generator g).state = .stopped) : Event s (s.startGenerator g)
  | expired (s : State) (g : GeneratorId) (running : (s.generator g).state ≠ .stopped) :
      Event s (s.fireGenerator g).schedule
  | watch (s : State) (w : WatchId) (x : Watch) (hx : (s.watch w).Edit s.isAttached x) :
      Event s (s.setWatch w x)
  | recordLeft (s : State) (h : HostId) : Event s (s.recordLeaves h)
  | noticeLeft (s : State) (h : HostId) : Event s (s.noticeLeaves h)
  | discardedLowered (s : State) (h : HostId) (n : Nat) : Event s (s.lowerDiscarded h n)
  | staleReached (s : State) (h : HostId) : Event s (s.reachStale h)
  | edge (s : State) (p : PinId) (level : Bool) (order : EdgeOrder) :
      Event s ({ s with trigSample := s.trigSample.put p level }.takeEdge p level order)
  | sampled (s : State) (ctx : Context) (input : AnalogInput) (hc : s.completion = none)
      (hx : s.converter = some ctx) :
      Event s (s.setConverter (some { ctx with phase := .converting s.timebase input }))
  | shares (s : State) (shares : List CompletionShare) : Event s (s.takeShares shares)

/-- Events one after the other. -/
abbrev Events : State → State → Prop := Relation.ReflTransGen Event

namespace Events

variable {s t : State}

theorem one (e : Event s t) : Events s t := .single e

theorem foldl {α : Type} {f : State → α → State} (hf : ∀ s a, Events s (f s a)) (l : List α)
    (s : State) : Events s (l.foldl f s) := by
  induction l generalizing s with
  | nil => exact .refl
  | cons a l ih => exact (hf s a).trans (ih _)

/-- What every event keeps, a sequence of events keeps. -/
theorem keep {P : State → Prop} (hP : ∀ s t, Event s t → P s → P t) (e : Events s t) (hs : P s) :
    P t := by
  induction e with
  | refl => exact hs
  | tail _ e ih => exact hP _ _ e ih

end Events

/-! ### The judgements as events -/

section
variable (s : State) (h : HostId) (params : List Byte)

/-- A command behind the shared checks does what its own answer does, for an ATTACHED host. -/
theorem judge_events {α : Type} {fits : Bool} {p : Option α} {act : α → CmdOutcome × State}
    (hact : ∀ a, s.isAttached h → p = some a → Events s (act a).2) :
    Events s (s.judge h fits p act).2 := by
  rcases s.judge_cases h fits p act with e | ⟨a, -, ha, hp, e⟩
  · rw [e]
  · rw [e]; exact hact a ha hp

theorem judgeAttach_events : Events s (judgeAttach h params s).2 := by
  rw [judgeAttach_eq]
  split
  · exact .refl
  · split
    · exact .refl
    · next hs =>
      split
      · exact .refl
      · exact .one (.opened s h _ hs)

theorem judgeDetach_events : Events s (judgeDetach h params s).2 :=
  judge_events s h fun _ ha _ => .one (.torn s h .detached ha (by decide))

theorem judgeSetHostOptions_events : Events s (judgeSetHostOptions h params s).2 :=
  judge_events s h fun o ha _ => .one (.optionsReplaced s h o ha)

theorem judgeSubmitJob_events : Events s (judgeSubmitJob h params s).2 := by
  refine judge_events s h fun j ha hp => ?_
  have hj := parseJob_atAdmission hp
  split
  · exact .refl
  · next fresh =>
    split
    · next slot => exact .one (.admission s h j ha hj (by simpa using fresh) slot)
    · exact .refl

theorem judgeWithdrawJob_events : Events s (judgeWithdrawJob h params s).2 := by
  refine judge_events s h fun tag _ _ => ?_
  have e : Events s (s.withdrawal ⟨h, tag⟩) := .one (.withdrawn s _)
  unfold State.withdrawal at e
  dsimp only at e ⊢
  cases hj : (s.settle [.job] (· == ⟨h, tag⟩)).findJob ⟨h, tag⟩ <;> simpa [hj] using e

theorem judgeClaimChannel_events : Events s (judgeClaimChannel h params s).2 := by
  refine judge_events s h fun c ha _ => ?_
  dsimp only
  split
  · exact .one (.channel s c _ ⟨fun g hg => .inr (by cases hg; exact ha), rfl⟩)
  · exact .refl

theorem judgeReleaseChannel_events : Events s (judgeReleaseChannel h params s).2 := by
  refine judge_events s h fun c _ _ => ?_
  dsimp only
  split
  · exact .one (.channel s c _ ⟨fun g hg => (by cases hg), rfl⟩)
  · exact .refl

theorem judgeConfigureChannel_events : Events s (judgeConfigureChannel h params s).2 := by
  refine judge_events s h fun ⟨c, setting, rate⟩ _ _ => ?_
  dsimp only
  split
  · exact .one (.channel s c _ ⟨fun g hg => .inl hg, rfl⟩)
  · exact .refl

theorem judgeClaimTrigger_events : Events s (judgeClaimTrigger h params s).2 := by
  refine judge_events s h fun g ha _ => ?_
  dsimp only
  split
  · exact .one (.generator s g _ (.claim h ha))
  · exact .refl

theorem judgeReleaseTrigger_events : Events s (judgeReleaseTrigger h params s).2 := by
  refine judge_events s h fun g _ _ => ?_
  split
  · exact .one (.generator s g _ .release)
  · exact .refl

theorem judgeStopTrigger_events : Events s (judgeStopTrigger h params s).2 := by
  refine judge_events s h fun g _ _ => ?_
  split
  · exact .one (.generator s g _ .stop)
  · exact .refl

/-- A program that Program Trigger accepts has the period and the counts its mode asks for (R96). -/
theorem programParams_fits {g : GeneratorId} {p : TriggerProgram}
    (hp : programParams params = some (g, p)) : p.fits = true := by
  simp only [programParams, Option.bind_eq_bind, Option.bind_eq_some_iff] at hp
  obtain ⟨_, -, _, -, _, -, e⟩ := hp
  split at e
  · next hf => cases e; exact hf
  · cases e

theorem judgeProgramTrigger_events : Events s (judgeProgramTrigger h params s).2 := by
  refine judge_events s h fun ⟨g, p⟩ _ hp => ?_
  dsimp only
  split
  · split
    · exact .one (.generator s g _ (.program p (programParams_fits params hp)))
    · exact .refl
  · exact .refl

theorem judgeStartTrigger_events : Events s (judgeStartTrigger h params s).2 := by
  refine judge_events s h fun g _ _ => ?_
  split
  · next ho =>
    split
    · next hst => exact .one (.started s g (by simp [ho]) hst)
    · exact .refl
  · exact .refl

theorem judgeSetWatch_events : Events s (judgeSetWatch h params s).2 := by
  refine judge_events s h fun ⟨w, x⟩ ha hp => ?_
  obtain ⟨ho, hu, hw⟩ := watchParams_record h hp
  dsimp only
  split
  · exact .one (.watch s w x ⟨fun g hg => by rw [ho] at hg; cases hg; exact ha, hu, fun _ => hw⟩)
  · exact .refl

theorem judgeClearWatch_events : Events s (judgeClearWatch h params s).2 := by
  refine judge_events s h fun w _ _ => ?_
  split
  · exact .one (.watch s w _ ⟨fun g hg => (by cases hg), rfl, fun hw => hw⟩)
  · exact .refl

theorem judgeWrite_events (c : Command) : Events s (judgeWrite c h params s).2 := by
  cases c with
  | attach => exact judgeAttach_events ..
  | detach => exact judgeDetach_events ..
  | setHostOptions => exact judgeSetHostOptions_events ..
  | submitJob => exact judgeSubmitJob_events ..
  | withdrawJob => exact judgeWithdrawJob_events ..
  | claimChannel => exact judgeClaimChannel_events ..
  | releaseChannel => exact judgeReleaseChannel_events ..
  | configureChannel => exact judgeConfigureChannel_events ..
  | claimTrigger => exact judgeClaimTrigger_events ..
  | releaseTrigger => exact judgeReleaseTrigger_events ..
  | programTrigger => exact judgeProgramTrigger_events ..
  | startTrigger => exact judgeStartTrigger_events ..
  | stopTrigger => exact judgeStopTrigger_events ..
  | setWatch => exact judgeSetWatch_events ..
  | clearWatch => exact judgeClearWatch_events ..
  | readStatus | readJob | drainResults | readNotices | readChannel | readTrigger | readWatch =>
    exact .refl

theorem judgeFrame_events (c : Command) : Events s (judgeFrame c h params s).2 := by
  by_cases hc : c = .submitJob
  · subst hc
    change Events s (judgeSubmitFrame h params s).2
    unfold judgeSubmitFrame
    split
    · exact .refl
    · exact judgeSubmitJob_events ..
  · rw [judgeFrame_of_ne hc]
    exact judgeWrite_events ..

end

/-! ### Frames and transfers as events -/

namespace State

variable (s : State) (h : HostId)

theorem recordOutcome_event (o : CmdOutcome) : Event s (s.recordOutcome h o) :=
  .port s h _ fun hp hi => by rw [hp hi]

theorem idlePort_event : Event s (s.idlePort h) := .port s h _ fun _ _ => rfl

theorem finishFrame_events (o : CmdOutcome) : Events s (s.finishFrame h o) := by
  refine Events.one (s.recordOutcome_event h o) |>.trans ?_
  refine Relation.ReflTransGen.tail ?_ (idlePort_event _ h)
  unfold renewLease
  split
  · next hr =>
    simp only [Bool.and_eq_true, beq_iff_eq] at hr
    exact Events.one (.renewed _ h hr.2)
  · exact Relation.ReflTransGen.refl

theorem fixReply_event (c : Command) (params : List Byte) (r : CmdOutcome × ReplyBody) :
    Event s (s.fixReply h c params r) :=
  .port s h _ fun _ => Port.sound_of_busy (by simp)

theorem runRead_events (c : Command) (params : List Byte) (judge : State → CmdOutcome × ReplyBody) :
    Events s (s.runRead h c params judge) := by
  unfold runRead
  split
  · exact .one (s.fixReply_event ..)
  · exact .refl

theorem runWrite_events (c : Command) (params : List Byte) :
    Events s (s.runWrite h c (judgeFrame c h params)) := by
  unfold runWrite
  split
  · exact (judgeFrame_events s h params c).trans (finishFrame_events ..)
  · exact .refl

theorem beginFrame_event (read : Bool) : Event s (s.beginFrame h read) :=
  .port s h _ fun _ => Port.sound_of_busy (by simp)

theorem refuseByte_event (b : Byte) (o : CmdOutcome) : Event s (s.refuseByte b o) :=
  .port s 2 _ fun _ => Port.sound_of_busy (by simp)

theorem takeCommand_events (b : Byte) : Events s (s.takeCommand h b) := by
  unfold takeCommand
  dsimp only
  split
  · exact .one (.port s h _ fun _ => Port.sound_of_busy (by simp))
  · exact .one (s.fixReply_event ..)
  · exact .one (.port s h _ fun _ => Port.sound_of_busy (by simp))

theorem clocked_phase (p : Port) : (p.clocked h).phase = p.phase := by
  unfold Port.clocked
  split <;> rfl

theorem takeParam_events (hp : (s.port h).phase = .parameters) (b : Byte) :
    Events s (s.takeParam h b) := by
  unfold takeParam
  dsimp only
  split
  · exact .refl
  · split
    · exact .one (s.fixReply_event ..)
    · refine .one (.port s h _ fun _ => Port.sound_of_busy ?_)
      simp [clocked_phase, hp]

theorem acceptByte_events (b : Byte) : Events s (s.acceptByte h b) := by
  unfold acceptByte
  split
  · exact s.takeCommand_events h b
  · next hp => exact s.takeParam_events h hp b
  · exact .refl

theorem writeByte_events (b : Byte) : Events s (s.writeByte h b) := by
  unfold writeByte
  split
  · exact s.acceptByte_events h b
  · split
    · split
      · exact .one (s.refuseByte_event ..)
      · exact s.acceptByte_events h b
    · exact .refl

theorem endCommand_events (code : Byte) (partialByte : Bool) :
    Events s (s.endCommand h code partialByte) := by
  unfold endCommand
  dsimp only
  split
  · exact s.finishFrame_events ..
  · exact s.finishFrame_events ..
  · split
    · split <;> exact s.finishFrame_events ..
    · split
      · exact s.finishFrame_events ..
      · exact (judgeWrite_events ..).trans (finishFrame_events ..)

theorem endFrame_events (partialByte : Bool) : Events s (s.endFrame h partialByte) := by
  unfold endFrame
  split
  · exact .refl
  · split
    · exact .one (s.idlePort_event h)
    · exact s.endCommand_events ..

theorem i2cStart_events (address : BitVec 7) (read : Bool) : Events s (s.i2cStart address read) := by
  unfold i2cStart
  dsimp only
  split
  · split
    · exact .one (s.beginFrame_event 2 read)
    · exact .refl
  · exact .refl
  · next hi _ =>
    split
    · exact .one (.port s 2 _ fun _ => Port.sound_of_busy hi)
    · split
      · exact (s.endFrame_events 2 false).tail (beginFrame_event ..)
      · exact s.endFrame_events 2 false

/-- A port that drives nothing in IDLE is a sound one, so what transfers a byte is in a frame. -/
theorem outByte_busy (hp : (s.port h).Sound) (ho : s.outByte h ≠ none) : (s.port h).phase ≠ .idle := by
  intro hi
  rw [outByte, hp hi] at ho
  by_cases h2 : isSpi h = true <;> simp [h2] at ho

theorem itemDelivered_events (body : ReplyBody) : Events s (s.itemDelivered h body) := by
  cases body with
  | fixed _ => exact .refl
  | status _ n => exact .one (.discardedLowered s h n)
  | drain _ => exact .one (.recordLeft s h)
  | notices _ => exact .one (.noticeLeft s h)

theorem transferTo_events (ho : s.outByte h ≠ none) (r : Reply) (count : Nat) (ack : Bool) :
    Events s (s.transferTo h r count ack) := by
  unfold transferTo
  dsimp only
  have sent : ∀ p : Port, p.phase = (s.port h).phase → Events s (s.setPort h p) := fun p hp =>
    .one (.port s h p fun hs => Port.sound_of_busy (hp ▸ s.outByte_busy h hs ho))
  split
  · exact Relation.ReflTransGen.trans (sent _ (by rfl)) (itemDelivered_events ..)
  · exact sent _ rfl

theorem sendPlain_events (ho : s.outByte h ≠ none) (b : Byte) (ack : Bool) :
    Events s (s.sendPlain h b ack) :=
  .one (.port s h _ fun hs => Port.sound_of_busy (s.outByte_busy h hs ho))

theorem transferByte_events (ack : Bool) : Events s (s.transferByte h ack) := by
  unfold transferByte
  split
  · exact .refl
  · next ho =>
    have ho : s.outByte h ≠ none := by simp [ho]
    split
    · split
      · exact s.transferTo_events h ho ..
      · exact s.sendPlain_events h ho ..
    · exact s.sendPlain_events h ho ..

theorem transferItem_events (carries : ReplyBody → Bool) (ack : Bool) :
    Events s (s.transferItem h carries ack) := by
  unfold transferItem
  split
  · next ho _ =>
    split
    · exact s.transferTo_events h (by simp [ho]) ..
    · exact .refl
  · exact .refl

/-! ### Time as events -/

theorem expireDelay_events (g : GeneratorId) : Events s (s.expireDelay g) := by
  unfold expireDelay
  split
  · next hd =>
    refine .one (.expired s g fun hs => ?_)
    simp [Generator.due, hs] at hd
  · exact .refl

theorem expirePeriod_events (g : GeneratorId) : Events s (s.expirePeriod g) := by
  unfold expirePeriod
  split
  · next hd =>
    refine .one (.expired s g fun hs => ?_)
    simp [Generator.due, hs] at hd
  · exact .refl

theorem expireLease_events : Events s (s.expireLease h) := by
  unfold expireLease
  split
  · next hd => exact .one (.torn s h .lapsed hd.1 (by decide))
  · exact .refl

theorem takeDue_events : Events s s.takeDue := by
  unfold takeDue
  refine (Events.foldl (fun s g => ?_) allGenerators s).trans <|
    (Events.foldl expireLease_events allHosts _).trans <|
      Events.foldl (fun s h => .one (.staleReached s h)) allHosts _
  exact (s.expireDelay_events g).trans (expirePeriod_events ..)

theorem finishCompletion_events : Events s s.finishCompletion := by
  unfold finishCompletion
  split
  · exact .one (.shares s _)
  · exact .refl

end State

/-! ### Every row as events -/

/-- A row but device reset, tick and completion is a sequence of events. -/
theorem exec_plain_events {i : Instr} {s t : State} (h : exec i s = .next t)
    (htick : i ≠ .timebaseTick) (hdone : ∀ shares, i ≠ .conversionComplete shares)
    (hreset : ∀ straps, i ≠ .deviceReset straps) : Events s t := by
  cases hf : frameOf i with
  | some f =>
    obtain ⟨g, c, params⟩ := f
    rw [exec_command_row hf] at h
    cases h
    split
    · exact s.runRead_events ..
    · exact s.runWrite_events ..
  | none =>
    cases i with
    | frameBegin how =>
      cases how with
      | csFall port =>
        simp only [exec, execFrameBegin] at h
        split at h <;> cases h
        · exact .one (s.beginFrame_event ..)
        · exact .refl
      | start address read => cases h; exact s.i2cStart_events ..
    | frameEnd how =>
      cases how with
      | csRise port partialByte => cases h; exact s.endFrame_events ..
      | stop => cases h; exact s.endFrame_events ..
      | repeatedStart address read => cases h; exact s.i2cStart_events ..
    | i2cByteRefused b =>
      simp only [exec, execI2cByteRefused] at h
      split at h <;> cases h
      · exact .one (s.refuseByte_event ..)
      · exact .refl
    | readPhaseBegin => cases h; exact s.i2cStart_events ..
    | recordTransferred g ack => cases h; exact s.transferItem_events ..
    | noticeTransferred g ack => cases h; exact s.transferItem_events ..
    | discardCountTransferred g ack => cases h; exact s.transferItem_events ..
    | triggerDelayExpiry g => cases h; exact s.expireDelay_events g
    | triggerPeriodExpiry g => cases h; exact s.expirePeriod_events g
    | leaseTimerExpiry g => cases h; exact s.expireLease_events g
    | staleIntervalReached g => cases h; exact .one (.staleReached s g)
    | trigEdge p level order =>
      simp only [exec, execTrigEdge] at h
      split at h <;> cases h
      · exact .refl
      · exact .one (.edge s p level order)
    | samplingPhaseEnd input =>
      simp only [exec, execSamplingPhaseEnd] at h
      split at h
      · next hc hx =>
        split at h <;> cases h
        · exact .one (.sampled s _ input hc hx)
        · exact .refl
      · cases h; exact .refl
    | byteTaken g b => cases h; exact s.writeByte_events g b
    | replyByteTransferred g ack => cases h; exact s.transferByte_events g ack
    | timebaseTick => exact absurd rfl htick
    | conversionComplete shares => exact absurd rfl (hdone shares)
    | deviceReset straps => exact absurd rfl (hreset straps)
    | _ => cases hf

theorem exec_timebaseTick (s : State) :
    exec .timebaseTick s = .next s.finishCompletion.takeDue.tick := rfl

theorem exec_conversionComplete (shares : List CompletionShare) (s : State) :
    exec (.conversionComplete shares) s = .next (s.handOn.takeShares shares) := rfl

/-- What stands open before a tick is taken as a sequence of events (log entries 5, 6). -/
theorem State.beforeTick_events (s : State) : Events s s.finishCompletion.takeDue :=
  s.finishCompletion_events.trans (takeDue_events _)

/-- What every event, a tick, a report and a device reset keep, every row keeps. -/
theorem exec_keeps {P : State → Prop} (hevent : ∀ s t, Event s t → P s → P t)
    (htick : ∀ s : State, P s → P s.tick) (hreport : ∀ s : State, P s → P s.handOn)
    (hreset : ∀ (s : State) straps, P s → P { State.afterReset straps with pending := s.pending })
    {i : Instr} {s t : State} (h : exec i s = .next t) (hs : P s) : P t := by
  by_cases h1 : i = .timebaseTick
  · subst h1
    rw [exec_timebaseTick, Host.Outcome.next.injEq] at h
    exact h ▸ htick _ (s.beforeTick_events.keep hevent hs)
  by_cases h2 : ∃ shares, i = .conversionComplete shares
  · obtain ⟨shares, rfl⟩ := h2
    rw [exec_conversionComplete, Host.Outcome.next.injEq] at h
    exact h ▸ hevent _ _ (.shares _ shares) (hreport s hs)
  by_cases h3 : ∃ straps, i = .deviceReset straps
  · obtain ⟨straps, rfl⟩ := h3
    cases h
    exact hreset s straps hs
  · exact (exec_plain_events h h1 (fun x hx => h2 ⟨x, hx⟩) fun x hx => h3 ⟨x, hx⟩).keep hevent hs

/-- The same of a step, of what does not look at the queue. -/
theorem step_keeps {P : State → Prop} (hevent : ∀ s t, Event s t → P s → P t)
    (htick : ∀ s : State, P s → P s.tick) (hreport : ∀ s : State, P s → P s.handOn)
    (hreset : ∀ (s : State) straps, P s → P { State.afterReset straps with pending := s.pending })
    (hqueue : ∀ (s : State) rows, P s → P { s with pending := rows })
    {s t : State} (h : step s = .next t) (hs : P s) : P t := by
  unfold step at h
  split at h
  · cases h; exact hs
  · exact exec_keeps hevent htick hreport hreset h (hqueue s _ hs)

end Sys2Proof.Machine

/-! PROOFS. What the shares of a completion leave alone (section 3.4), stated as a frame that composes:
the watch unit's share and the Job Table's share reach the queue and the jobs of the reported job's
owner, and of another host's at most the reservation accounts, the notices and the job records' marks. -/

namespace Sys2Proof.Machine

/-- `t` differs from `s` at most as the shares of a completion of host `g` can make it: beyond what an
`EngineFrame` lets differ, in the states of set watches, in `g`'s result queue, and by the removal of
jobs of `g`. -/
structure State.ShareFrame (g : HostId) (s t : State) : Prop where
  rest : t = { s with
    jobs := t.jobs, ready := t.ready, marker := t.marker, rotation := t.rotation,
    converter := t.converter, watches := t.watches, results := t.results, notices := t.notices }
  ids : (t.jobs.map Job.id).Sublist (s.jobs.map Job.id)
  others : ∀ h, h ≠ g → (t.jobs.map Job.id).filter (·.owner == h) = (s.jobs.map Job.id).filter (·.owner == h)
  queue : ∀ h, h ≠ g → t.resultQueue h =
    { s.resultQueue h with accounts := (t.resultQueue h).accounts }
  watch : ∀ w, t.watch w = { s.watch w with state := (t.watch w).state }
  free : ∀ w, (s.watch w).owner = none → t.watch w = s.watch w

namespace State.ShareFrame

variable {g : HostId} {s t u : State}

theorem refl (s : State) : s.ShareFrame g s :=
  ⟨rfl, .refl _, fun _ _ => rfl, fun _ _ => rfl, fun _ => rfl, fun _ _ => rfl⟩

theorem trans (a : s.ShareFrame g t) (b : t.ShareFrame g u) : s.ShareFrame g u where
  rest := by rw [b.rest, a.rest]
  ids := b.ids.trans a.ids
  others h hh := (b.others h hh).trans (a.others h hh)
  queue h hh := by rw [b.queue h hh, a.queue h hh]
  watch w := by rw [b.watch w, a.watch w]
  free w hw := by
    have ht : (t.watch w).owner = none := by rw [a.free w hw]; exact hw
    exact (b.free w ht).trans (a.free w hw)

theorem of_engine (f : s.EngineFrame t) : s.ShareFrame g t where
  rest := by rw [f.rest]
  ids := by rw [f.ids]
  others h _ := by rw [f.ids]
  queue h _ := f.queue h
  watch w := by rw [f.watch w]
  free w _ := f.watch w

/-- The frame does not look at the open completion. -/
theorem setCompletion (a : s.ShareFrame g t) (c : Option Completion) :
    (s.setCompletion c).ShareFrame g (t.setCompletion c) where
  rest := by rw [a.rest]; rfl
  ids := a.ids
  others := a.others
  queue := a.queue
  watch := a.watch
  free := a.free

variable (f : s.ShareFrame g t)
include f

theorem tbsel : t.tbsel = s.tbsel := by rw [f.rest]
theorem adr : t.adr = s.adr := by rw [f.rest]
theorem timebase : t.timebase = s.timebase := by rw [f.rest]
theorem channels : t.channels = s.channels := by rw [f.rest]
theorem generators : t.generators = s.generators := by rw [f.rest]
theorem sessions : t.sessions = s.sessions := by rw [f.rest]
theorem ports : t.ports = s.ports := by rw [f.rest]
theorem completion : t.completion = s.completion := by rw [f.rest]
theorem pending : t.pending = s.pending := by rw [f.rest]

end State.ShareFrame

/-- The frame of the shares taken: beyond a `ShareFrame` the open completion itself. -/
def State.SharesFrame (g : HostId) (s t : State) : Prop :=
  (s.setCompletion t.completion).ShareFrame g t

namespace State.SharesFrame

variable {g : HostId} {s t u : State}

theorem refl (s : State) : s.SharesFrame g s := ShareFrame.refl s

theorem trans (a : s.SharesFrame g t) (b : t.SharesFrame g u) : s.SharesFrame g u :=
  (ShareFrame.setCompletion a u.completion).trans b

theorem of_share (f : s.ShareFrame g t) : s.SharesFrame g t := by
  have := f.setCompletion t.completion
  rwa [show t.setCompletion t.completion = t from rfl] at this

theorem of_engine (f : s.EngineFrame t) : s.SharesFrame g t := of_share (.of_engine f)

variable (f : s.SharesFrame g t)
include f

theorem share : (s.setCompletion t.completion).ShareFrame g t := f
theorem tbsel : t.tbsel = s.tbsel := (share f).tbsel
theorem adr : t.adr = s.adr := (share f).adr
theorem timebase : t.timebase = s.timebase := (share f).timebase
theorem channels : t.channels = s.channels := (share f).channels
theorem generators : t.generators = s.generators := (share f).generators
theorem sessions : t.sessions = s.sessions := (share f).sessions
theorem ports : t.ports = s.ports := (share f).ports
theorem pending : t.pending = s.pending := (share f).pending

end State.SharesFrame

namespace State

variable (s : State)

/-! ### The watch unit's share -/

/-- An evaluation changes the state of its watch, which is a set one (R117, R118, R119). -/
theorem evaluate_share {g : HostId} {w : WatchId} (hw : (s.watch w).owner ≠ none) (owner : HostId) (v : Code) :
    s.ShareFrame g (s.evaluate w owner v) := by
  refine ShareFrame.trans (t := s.setWatch w { s.watch w with state := (s.watch w).next v }) ?_
    (.of_engine (s.evaluate_engine w owner v))
  refine ⟨rfl, .refl _, fun _ _ => rfl, fun _ _ => rfl, fun x => ?_, fun x hx => ?_⟩
  · rw [setWatch_watch]
    split
    · next e => subst e; rfl
    · rfl
  · exact setWatch_watch_ne s w _ fun e => hw (e ▸ hx)

theorem offerWatch_share {g : HostId} (r : Report) (w : WatchId) :
    s.ShareFrame g (State.offerWatch r s w) := by
  unfold offerWatch
  split
  · next owner ho =>
    split
    · exact s.evaluate_share (by simp [ho]) ..
    · exact .refl s
  · exact .refl s

theorem foldl_share {g : HostId} {α : Type} {f : State → α → State}
    (hf : ∀ s a, ShareFrame g s (f s a)) (l : List α) (s : State) : s.ShareFrame g (l.foldl f s) := by
  induction l generalizing s with
  | nil => exact .refl s
  | cons a l ih => exact (hf s a).trans (ih _)

theorem watchShare_share {g : HostId} (r : Report) : s.ShareFrame g (s.watchShare r) := by
  unfold watchShare
  split
  · exact foldl_share (fun s w => s.offerWatch_share r w) ..
  · exact .refl s

/-! ### The Job Table's share -/

/-- A removed job leaves the names of every other job in place. -/
theorem removeName_share (id : JobId) :
    s.ShareFrame id.owner (s.setJobs (s.jobs.filter fun k => k.id != id)) where
  rest := rfl
  ids := (List.filter_sublist ..).map _
  others h hh := by
    rw [setJobs_jobs, List.filter_map, List.filter_map, List.filter_filter]
    congr 1
    refine List.filter_congr fun k _ => ?_
    have (he : k.id.owner = h) : k.id ≠ id := fun hk => hh (by rw [← he, hk])
    by_cases he : k.id.owner = h <;> simp [he, this]
  queue _ _ := rfl
  watch _ := rfl
  free _ _ := rfl

theorem offer_share (id : JobId) (c : JobClass) (r : ResultRecord) :
    s.ShareFrame id.owner (s.offer id c r) := by
  obtain ⟨hrest, hids, hq⟩ := s.offer_rest id c r
  refine ⟨?_, by rw [hids], fun _ _ => by rw [hids], fun h hh => by rw [hq h hh], fun w => ?_, fun w _ => ?_⟩
  · rw [hrest]
  · rw [hrest]; rfl
  · rw [hrest]; rfl

theorem dispose_share (j : Job) : s.ShareFrame j.id.owner (s.dispose j) := by
  unfold dispose
  split
  · exact (ShareFrame.of_engine (s.post_engine ..)).trans (removeName_share _ j.id)
  · split
    · exact .of_engine ((s.updateJob_engine _ (by intro; rfl)).trans (makeReady_engine ..))
    · split
      · exact .of_engine (s.makeReady_engine ..)
      · exact .of_engine (s.updateJob_engine _ (by intro; rfl))

/-- The end of a pass up to the disposal (R22, R78). -/
def closePass (j : Job) : State :=
  let s := s.updateJob j.id Job.endPass
  let s := if j.notifyPass then s.post j.id.owner .passDone j.id.tag j.passesDone else s
  let s :=
    if 0 < j.discarded then s.post j.id.owner .resultsDiscarded j.id.tag j.discarded else s
  (s.setMarker j.cls none).setAccount j.id.owner j.cls none

theorem endPass_eq (j : Job) : s.endPass j = (s.closePass j).dispose j.endPass := rfl

theorem post_if_engine (q : Prop) [Decidable q] (h : HostId) (kind : NoticeKind) (subject : Byte)
    (detail : Nat) : s.EngineFrame (if q then s.post h kind subject detail else s) := by
  split
  · exact s.post_engine ..
  · exact .refl s

theorem closePass_engine (j : Job) : s.EngineFrame (s.closePass j) :=
  (s.updateJob_engine _ (by intro; rfl)).trans <| (post_if_engine ..).trans <|
    (post_if_engine ..).trans <| (setMarker_engine ..).trans (setAccount_engine ..)

theorem endPass_share (j : Job) : s.ShareFrame j.id.owner (s.endPass j) :=
  (ShareFrame.of_engine (s.closePass_engine j)).trans (dispose_share _ j.endPass)

/-- The record of a completion offered to its queue, where the job has one (R19). -/
def offerRecord (j : Job) (r : Report) : State :=
  if j.dest = .queue then
    s.offer j.id j.cls (j.record r (decide (j.entries.length ≤ j.cursor + 1)))
  else s

/-- The Job Table's share over a job it finds (R19, R22). -/
theorem jobShare_some {r : Report} {j : Job} (hj : s.findJob r.job = some j) :
    s.jobShare r =
      match (s.offerRecord j r).findJob r.job with
      | none => s.offerRecord j r
      | some k =>
        if j.entries.length ≤ j.cursor + 1 then (s.offerRecord j r).endPass k
        else (s.offerRecord j r).updateJob k.id Job.advance := by
  simp only [jobShare, hj, decide_eq_true_eq]
  rfl

theorem jobShare_none {r : Report} (hj : s.findJob r.job = none) : s.jobShare r = s := by
  simp [jobShare, hj]

theorem offerRecord_share (j : Job) (r : Report) : s.ShareFrame j.id.owner (s.offerRecord j r) := by
  unfold offerRecord
  split
  · exact s.offer_share ..
  · exact .refl s

theorem jobShare_share (r : Report) : s.ShareFrame r.job.owner (s.jobShare r) := by
  cases hj : s.findJob r.job with
  | none => rw [s.jobShare_none hj]; exact .refl s
  | some j =>
    rw [s.jobShare_some hj]
    have ho := s.offerRecord_share j r
    rw [s.findJob_id hj] at ho
    split
    · exact ho
    · next k hk =>
      have hid := findJob_id _ hk
      split
      · exact ho.trans (hid ▸ endPass_share _ k)
      · exact ho.trans (.of_engine (updateJob_engine _ _ (by intro; rfl)))

/-! ### The shares taken of the open completion -/

theorem leave_shares {g : HostId} (x : CompletionShare) : s.SharesFrame g (s.leave x) :=
  ShareFrame.refl _

theorem leave_completion {c : Completion} (hc : s.completion = some c) (x : CompletionShare) :
    (s.leave x).completion = c.without x := by
  simp [leave, hc]

theorem takeShare_shares {c : Completion} (hc : s.completion = some c) (x : CompletionShare) :
    s.SharesFrame c.report.job.owner (s.takeShare x) := by
  rcases s.takeShare_cases x with e | ⟨d, hd, -, ⟨-, e⟩ | ⟨-, e⟩ | ⟨-, -, e⟩⟩
  · rw [e]; exact .refl s
  · rw [e]
    exact (s.leave_shares _).trans <| (SharesFrame.of_share (watchShare_share ..)).trans
      (.of_engine (schedule_engine _))
  · rw [e]
    cases hc.symm.trans hd
    exact (SharesFrame.of_share (s.jobShare_share _)).trans <|
      (SharesFrame.of_engine (awaitSelection_engine ..)).trans (leave_shares ..)
  · rw [e]
    exact (s.leave_shares _).trans (.of_engine (schedule_engine _))

/-- What one thing taken leaves open: the completion as it was, or without that thing. -/
theorem takeShare_completion {c : Completion} (hc : s.completion = some c) (x : CompletionShare) :
    (s.takeShare x).completion =
      if x ∈ c.left ∧ (x = .select → .job ∉ c.left) then c.without x else some c := by
  have taken {u : State} (f : ∀ g, (s.leave x).ShareFrame g u) : u.completion = c.without x :=
    ((f 0).completion).trans (s.leave_completion hc x)
  rcases x with _ | _ | _
  · by_cases hx : .watch ∈ c.left
    · have e : s.takeShare .watch = ((s.leave .watch).watchShare c.report).schedule := by
        simp [takeShare, hc, hx]
      rw [e, if_pos ⟨hx, by simp⟩]
      exact taken fun g => (watchShare_share ..).trans (.of_engine (schedule_engine _))
    · simp [takeShare, hc, hx]
  · by_cases hx : .job ∈ c.left
    · have e : s.takeShare .job =
          ((s.jobShare c.report).updateJob c.report.job Job.awaitSelection).leave .job := by
        simp [takeShare, takeJobShare, hc, hx]
      rw [e, if_pos ⟨hx, by simp⟩]
      refine leave_completion _ ?_ .job
      rw [(awaitSelection_engine ..).completion, (s.jobShare_share _).completion, hc]
    · simp [takeShare, hc, hx]
  · by_cases hx : .select ∈ c.left ∧ .job ∉ c.left
    · have e : s.takeShare .select = (s.leave .select).schedule := by
        simp [takeShare, hc, hx]
      rw [e, if_pos ⟨hx.1, fun _ => hx.2⟩]
      exact taken fun g => .of_engine (schedule_engine _)
    · have e : s.takeShare .select = s := by
        by_cases hm : .select ∈ c.left
        · have : .job ∈ c.left := by simpa [hm] using hx
          simp [takeShare, hc, this]
        · simp [takeShare, hc, hm]
      rw [e, hc, if_neg (by simpa using hx)]

/-- What is left of a completion reports the same and leaves no more. -/
theorem without_some {c d : Completion} {x : CompletionShare} (h : c.without x = some d) :
    d.report = c.report ∧ d.left = c.left.erase x ∧ d.left ≠ [] := by
  unfold Completion.without at h
  split at h
  · cases h
  · next hn => cases h; exact ⟨rfl, rfl, hn⟩

theorem takeShare_left {x : CompletionShare} {d : Completion} (hd : (s.takeShare x).completion = some d) :
    ∃ c, s.completion = some c ∧ d.report = c.report ∧ d.left.Sublist c.left := by
  cases hc : s.completion with
  | none => rw [takeShare_none s hc, hc] at hd; cases hd
  | some c =>
    rw [s.takeShare_completion hc] at hd
    split at hd
    · obtain ⟨hr, hl, -⟩ := without_some hd
      exact ⟨c, rfl, hr, hl ▸ List.erase_sublist⟩
    · cases hd; exact ⟨d, rfl, rfl, .refl _⟩

theorem foldl_takeShare_left {l : List CompletionShare} {d : Completion}
    (hd : (l.foldl State.takeShare s).completion = some d) :
    ∃ c, s.completion = some c ∧ d.report = c.report ∧ d.left.Sublist c.left := by
  induction l generalizing s with
  | nil => exact ⟨d, hd, rfl, .refl _⟩
  | cons x l ih =>
    obtain ⟨c, hc, hr, hl⟩ := ih _ hd
    obtain ⟨e, he, hr', hl'⟩ := s.takeShare_left hc
    exact ⟨e, he, hr.trans hr', hl.trans hl'⟩

theorem foldl_takeShare_shares {g : HostId} (hg : ∀ c ∈ s.completion, c.report.job.owner = g)
    (l : List CompletionShare) : s.SharesFrame g (l.foldl State.takeShare s) := by
  induction l generalizing s with
  | nil => exact .refl s
  | cons x l ih =>
    have one : s.SharesFrame g (s.takeShare x) := by
      cases hc : s.completion with
      | none => rw [takeShare_none s hc]; exact .refl s
      | some c => exact hg c hc ▸ s.takeShare_shares hc x
    refine one.trans (ih _ fun d hd => ?_)
    obtain ⟨c, hc, hr, -⟩ := s.takeShare_left hd
    rw [hr]; exact hg c hc

theorem takeShares_shares {g : HostId} (hg : ∀ c ∈ s.completion, c.report.job.owner = g)
    (l : List CompletionShare) : s.SharesFrame g (s.takeShares l) :=
  s.foldl_takeShare_shares hg _

/-- Several shares taken, of whatever completion is open. -/
theorem takeShares_framed (l : List CompletionShare) : ∃ g, s.SharesFrame g (s.takeShares l) := by
  cases hc : s.completion with
  | none => exact ⟨0, by rw [takeShares_none s hc]; exact .refl s⟩
  | some c =>
    exact ⟨c.report.job.owner, s.takeShares_shares (fun d hd => by cases hc.symm.trans hd; rfl) l⟩

/-- A settlement reaches the holdings of the removed job's owner alone. -/
theorem settle_shares {g : HostId} {removed : JobId → Bool}
    (hg : ∀ id, removed id = true → id.owner = g) (l : List CompletionShare) :
    s.SharesFrame g (s.settle l removed) := by
  unfold settle
  split
  · next c hc =>
    split
    · next hr => exact s.takeShares_shares (fun d hd => by cases hc.symm.trans hd; exact hg _ hr) l
    · exact .refl s
  · exact .refl s

end State
end Sys2Proof.Machine

/-! PROOFS. The frames of the events, the three that move no more than they name (the queue of what
waits, the straps, the timebase and the latest values; the names in the Job Table; the records of the
generators, watches and ports), and the statements about them. -/

namespace Sys2Proof.Machine

/-! ### The events over their parts -/

/-- A generator after one firing (R100, R101). -/
def Generator.fired (x : Generator) : Generator :=
  let y := { x with firings := x.firings + 1 }
  if y.endsAt y.firings then y.stopped else y.nextInterval

/-- A generator that enters DELAYING, or fires at once (R99). -/
def Generator.entered (x : Generator) : Generator :=
  if x.delay = 0 then ({ x with state := .delaying, remaining := none } : Generator).fired
  else { x with state := .delaying, remaining := some x.delay.toNat }

/-- A generator after an accepted start (R97). -/
def Generator.started (x : Generator) : Generator :=
  let y := { x with firings := 0, accumulator := 0 }
  if x.start = .command then y.entered else { y with state := .waitingEdge }

namespace State

variable (s : State)

theorem setResultQueue_twice (h : HostId) (x y : ResultQueue) :
    (s.setResultQueue h x).setResultQueue h y = s.setResultQueue h y := by
  simp [setResultQueue]

theorem setGenerator_twice (g : GeneratorId) (x y : Generator) :
    (s.setGenerator g x).setGenerator g y = s.setGenerator g y := by
  simp [setGenerator]

theorem fireGenerator_frame (g : GeneratorId) :
    (s.setGenerator g (s.generator g).fired).EngineFrame (s.fireGenerator g) :=
  s.fireGenerator_engine g

theorem enterDelaying_frame (g : GeneratorId) :
    (s.setGenerator g (s.generator g).entered).EngineFrame (s.enterDelaying g) := by
  unfold enterDelaying Generator.entered
  dsimp only
  split
  · have := fireGenerator_frame (s.setGenerator g { s.generator g with state := .delaying, remaining := none }) g
    rwa [setGenerator_generator_self, setGenerator_twice] at this
  · exact .refl _

theorem startGenerator_frame (g : GeneratorId) :
    (s.setGenerator g (s.generator g).started).EngineFrame (s.startGenerator g) := by
  rw [startGenerator_eq]
  unfold Generator.started
  by_cases hc : (s.generator g).start = .command
  · rw [if_neg (not_not_intro hc)]
    have := enterDelaying_frame (s.setGenerator g { s.generator g with firings := 0, accumulator := 0 }) g
    rw [setGenerator_generator_self, setGenerator_twice] at this
    rw [if_pos hc]
    exact this.trans (schedule_engine _)
  · rw [if_pos hc, if_neg hc]
    exact .refl _

theorem generatorEdge_frame (p : PinId) (rising : Bool) (g : GeneratorId) :
    s.generatorEdge p rising g = s ∨
      (s.generator g).state = .waitingEdge ∧
        (s.setGenerator g (s.generator g).entered).EngineFrame (s.generatorEdge p rising g) := by
  unfold generatorEdge
  dsimp only
  split
  · next hw => exact .inr ⟨hw.1, s.enterDelaying_frame g⟩
  · exact .inl rfl

theorem foldl_keeps {α : Type} {P : State → Prop} {f : State → α → State}
    (hf : ∀ s a, P s → P (f s a)) (l : List α) (hs : P s) : P (l.foldl f s) := by
  induction l generalizing s with
  | nil => exact hs
  | cons a l ih => exact ih _ (hf s a hs)

/-- What each generator's edge, the delivery and the occasion keep, an edge keeps (R98, R105). -/
theorem takeEdge_keeps {P : State → Prop} {p : PinId} {rising : Bool} (order : EdgeOrder)
    (hgen : ∀ s g, P s → P (s.generatorEdge p rising g))
    (hdeliver : ∀ s, P s → P (s.deliver (edgeHits p rising))) (hschedule : ∀ s, P s → P s.schedule)
    (hs : P s) : P (s.takeEdge p rising order) :=
  hschedule _ <| foldl_keeps _ hgen _ <| hdeliver _ <| foldl_keeps _ hgen _ hs

/-- The shares 1 to 7 of a teardown together (R151). -/
theorem withoutHost_eq (h : HostId) (ended : SessionState) :
    (((((((s.endSession h ended).dropJobs h).dropChannels h).dropGenerators h).dropWatches
      h).emptyResults h).emptyNotices h) = s.withoutHost h ended := by
  simp only [endSession, dropJobs, dropChannels, dropGenerators, dropWatches, emptyResults,
    emptyNotices, setSession, setJobs, setConverter, setResultQueue, setNoticeQueue, withoutHost,
    Generator.released, Generator.stopped, Watch.freed]
  rfl

/-- A teardown by its parts: what is settled first, all that the host gives up, the posts, and the
selection (R151). -/
theorem teardown_eq (h : HostId) (ended : SessionState) :
    s.teardown h ended =
      (((s.settle [.watch, .job] fun id => id.owner == h).withoutHost h ended).announceLeft h
        (leftDetail ended)).select := by
  rw [← withoutHost_eq]
  unfold teardown
  dsimp only

theorem teardown_frame (h : HostId) (ended : SessionState) :
    ((s.settle [.watch, .job] fun id => id.owner == h).withoutHost h ended).EngineFrame
      (s.teardown h ended) := by
  rw [teardown_eq]
  exact (announceLeft_engine ..).trans (select_engine _)

/-- A job's removal before its slot is free: its Ready List, its conversion, its marker and its account
(R24, R50, R79). -/
def clearJob (j : Job) : State :=
  let s := s.setReady j.cls ((s.ready.get j.cls).erase j.id)
  let s := if s.executes j.id then s.abort else s
  if j.inPass then (s.setMarker j.cls none).setAccount j.id.owner j.cls none else s

theorem removeJob_eq (j : Job) :
    s.removeJob j = (s.clearJob j).setJobs ((s.clearJob j).jobs.filter fun k => k.id != j.id) := rfl

theorem clearJob_engine (j : Job) : s.EngineFrame (s.clearJob j) := by
  have aborted (u : State) : u.EngineFrame (if u.executes j.id then u.abort else u) := by
    split
    · exact u.abort_engine
    · exact .refl u
  have closed (u : State) : u.EngineFrame
      (if j.inPass then (u.setMarker j.cls none).setAccount j.id.owner j.cls none else u) := by
    split
    · exact (u.setMarker_engine ..).trans (setAccount_engine ..)
    · exact .refl u
  exact (s.setReady_engine ..).trans ((aborted _).trans (closed _))

theorem removeJob_share (j : Job) : s.ShareFrame j.id.owner (s.removeJob j) :=
  (ShareFrame.of_engine (s.clearJob_engine j)).trans (removeName_share _ j.id)

theorem withdraw_share (j : Job) : s.ShareFrame j.id.owner (s.withdraw j) := by
  unfold withdraw
  split
  · exact (s.removeJob_share j).trans (.of_engine (schedule_engine _))
  · exact s.removeJob_share j

theorem withdrawal_shares (id : JobId) : s.SharesFrame id.owner (s.withdrawal id) := by
  have hv : s.SharesFrame id.owner (s.settle [.job] (· == id)) :=
    s.settle_shares (by simp) _
  unfold withdrawal
  dsimp only
  split
  · exact hv
  · next j hj =>
    have := withdraw_share (s.settle [.job] (· == id)) j
    rw [findJob_id _ hj] at this
    exact hv.trans (.of_share this)

theorem admitJob_frame (j : Job) :
    ({ s with jobs := s.jobs ++ [j] } : State).EngineFrame (s.admitJob j) := by
  unfold admitJob
  dsimp only
  split
  · exact (setReady_engine ..).trans (schedule_engine _)
  · exact .refl _

theorem replaceOptions_frame (h : HostId) (o : HostOptions) :
    (s.withOptions h o).EngineFrame (s.replaceOptions h o) := by
  rw [replaceOptions_eq]
  split
  · exact schedule_engine _
  · exact .refl _

/-- The head record gone and the new head tested, before the occasion (R83, R86). -/
def withoutHead (h : HostId) (rest : List ResultRecord) : State :=
  s.setResultQueue h
    { s.resultQueue h with records := rest, staleMark := s.headReached h rest }

theorem recordLeaves_eq {h : HostId} {r : ResultRecord} {rest : List ResultRecord}
    (hq : (s.resultQueue h).records = r :: rest) :
    s.recordLeaves h = (s.withoutHead h rest).schedule := by
  rw [s.recordLeaves_cons hq]
  simp only [testStale, setResultQueue_resultQueue_self, setResultQueue_twice]
  rfl

theorem reachStale_rest (h : HostId) :
    s.reachStale h = { s with results := (s.reachStale h).results } := by
  unfold reachStale
  split <;> rfl

end State
end Sys2Proof.Machine

/-! PROOFS. What no event moves but its own, and the four statements that rest on it alone: the queue of
what waits, the straps, the timebase and the latest values; the slot law over the names in the Job
Table; and the laws of the generator, watch and port records. -/

namespace Sys2Proof.Machine

/-! ### What every event leaves (sections 3.7, 5.1) -/

/-- `t` has the queue of what waits, the straps, the timebase and every channel's latest value of `s`. -/
structure State.Quiet (s t : State) : Prop where
  pending : t.pending = s.pending
  tbsel : t.tbsel = s.tbsel
  adr : t.adr = s.adr
  timebase : t.timebase = s.timebase
  latest : ∀ c, t.channel c = { s.channel c with
    setting := (t.channel c).setting, rate := (t.channel c).rate, owner := (t.channel c).owner }

namespace State.Quiet

variable {s t u : State}

theorem refl (s : State) : s.Quiet s := ⟨rfl, rfl, rfl, rfl, fun _ => rfl⟩

theorem trans (a : s.Quiet t) (b : t.Quiet u) : s.Quiet u :=
  ⟨b.pending.trans a.pending, b.tbsel.trans a.tbsel, b.adr.trans a.adr, b.timebase.trans a.timebase,
    fun c => by rw [b.latest c, a.latest c]⟩

theorem of_engine (f : s.EngineFrame t) : s.Quiet t :=
  ⟨f.pending, f.tbsel, f.adr, f.timebase, fun c => by rw [f.channel c]⟩

theorem of_shares {g : HostId} (f : s.SharesFrame g t) : s.Quiet t :=
  ⟨f.pending, f.tbsel, f.adr, f.timebase, fun c => by
    rw [show t.channel c = s.channel c from congrArg (·.get c) f.channels]⟩

end State.Quiet

namespace State

variable (s : State)

theorem withoutHost_quiet (h : HostId) (ended : SessionState) : s.Quiet (s.withoutHost h ended) := by
  refine ⟨rfl, rfl, rfl, rfl, fun c => ?_⟩
  have : (s.withoutHost h ended).channel c =
      if (s.channel c).owner = some h then { s.channel c with owner := none } else s.channel c :=
    Table.get_map ..
  rw [this]
  split <;> rfl

theorem setChannel_quiet {c : ChannelId} {x : Channel} {attached : HostId → Prop}
    (hx : (s.channel c).Edit attached x) : s.Quiet (s.setChannel c x) := by
  refine ⟨rfl, rfl, rfl, rfl, fun d => ?_⟩
  rw [setChannel_channel]
  split
  · next e => rw [e]; exact hx.latest
  · rfl

theorem generatorEdge_quiet (p : PinId) (rising : Bool) (g : GeneratorId) :
    s.Quiet (s.generatorEdge p rising g) := by
  rcases s.generatorEdge_frame p rising g with e | ⟨-, f⟩
  · rw [e]; exact .refl s
  · exact Quiet.trans (t := s.setGenerator g (s.generator g).entered) ⟨rfl, rfl, rfl, rfl, fun _ => rfl⟩
      (.of_engine f)

theorem settle_quiet (l : List CompletionShare) (removed : JobId → Bool) :
    s.Quiet (s.settle l removed) := by
  unfold settle
  split
  · split
    · obtain ⟨g, f⟩ := s.takeShares_framed l
      exact .of_shares f
    · exact .refl s
  · exact .refl s

end State

theorem Event.quiet {s t : State} (e : Event s t) : s.Quiet t := by
  have bare {u : State} (hp : u.pending = s.pending) (ht : u.tbsel = s.tbsel) (ha : u.adr = s.adr)
      (hb : u.timebase = s.timebase) (hc : u.channels = s.channels) : s.Quiet u :=
    ⟨hp, ht, ha, hb, fun c => by rw [show u.channel c = s.channel c from congrArg (·.get c) hc]⟩
  cases e with
  | port h p _ => exact bare rfl rfl rfl rfl rfl
  | renewed h _ => exact bare rfl rfl rfl rfl rfl
  | opened h o _ => exact bare rfl rfl rfl rfl rfl
  | torn h ended _ _ =>
    exact (s.settle_quiet ..).trans <| (State.withoutHost_quiet ..).trans (.of_engine (s.teardown_frame h ended))
  | optionsReplaced h o _ =>
    exact (bare (u := s.withOptions h o) rfl rfl rfl rfl rfl).trans (.of_engine (s.replaceOptions_frame h o))
  | admission h j _ _ _ _ =>
    exact (bare (u := { s with jobs := s.jobs ++ [j] }) rfl rfl rfl rfl rfl).trans
      (.of_engine (s.admitJob_frame j))
  | withdrawn id => exact .of_shares (s.withdrawal_shares id)
  | channel c x hx => exact s.setChannel_quiet hx
  | generator g x _ => exact bare rfl rfl rfl rfl rfl
  | started g _ _ =>
    exact (bare (u := s.setGenerator g _) rfl rfl rfl rfl rfl).trans (.of_engine (s.startGenerator_frame g))
  | expired g _ =>
    exact (bare (u := s.setGenerator g _) rfl rfl rfl rfl rfl).trans
      (.of_engine ((s.fireGenerator_frame g).trans (State.schedule_engine _)))
  | watch w x _ => exact bare rfl rfl rfl rfl rfl
  | recordLeft h =>
    cases hq : (s.resultQueue h).records with
    | nil => rw [s.recordLeaves_nil hq]; exact .refl s
    | cons r rest =>
      rw [s.recordLeaves_eq hq]
      exact (bare (u := s.withoutHead h rest) rfl rfl rfl rfl rfl).trans (.of_engine (State.schedule_engine _))
  | noticeLeft h => exact bare rfl rfl rfl rfl rfl
  | discardedLowered h n => exact bare rfl rfl rfl rfl rfl
  | staleReached h => rw [s.reachStale_rest h]; exact bare rfl rfl rfl rfl rfl
  | edge p level order =>
    refine State.takeEdge_keeps (P := s.Quiet) _ order (fun u g hu => hu.trans (u.generatorEdge_quiet ..))
      (fun u hu => hu.trans (.of_engine (u.deliver_engine _)))
      (fun u hu => hu.trans (.of_engine u.schedule_engine)) (bare rfl rfl rfl rfl rfl)
  | sampled ctx input _ _ => exact bare rfl rfl rfl rfl rfl
  | shares l =>
    obtain ⟨g, f⟩ := s.takeShares_framed l
    exact .of_shares f

theorem Events.quiet {s t : State} (e : Events s t) : s.Quiet t :=
  e.keep (P := s.Quiet) (fun _ _ e h => h.trans e.quiet) (.refl s)

/-- A report moves the converter, the channels and the completion alone (R57). -/
theorem State.handOn_rest (s : State) :
    s.handOn = { s with converter := s.handOn.converter, channels := s.handOn.channels,
                        completion := s.handOn.completion } := by
  rcases s.handOn_cases with e | ⟨ctx, ts, held, -, -, -, e⟩
  · rw [e]
  · rw [e, (State.channelShare_channels ..).1]
    rfl

/-- Every row answers a next state (log entry 17). -/
theorem exec_total (i : Instr) (s : State) : ∃ t, exec i s = .next t := by
  cases hf : frameOf i with
  | some f =>
    obtain ⟨h, c, params⟩ := f
    exact ⟨_, exec_command_row hf s⟩
  | none =>
    cases i with
    | frameBegin how =>
      cases how with
      | csFall port => simp only [exec, execFrameBegin]; split <;> exact ⟨_, rfl⟩
      | start address read => exact ⟨_, rfl⟩
    | frameEnd how => cases how <;> exact ⟨_, rfl⟩
    | i2cByteRefused b => simp only [exec, execI2cByteRefused]; split <;> exact ⟨_, rfl⟩
    | trigEdge p level order => simp only [exec, execTrigEdge]; split <;> exact ⟨_, rfl⟩
    | samplingPhaseEnd input =>
      simp only [exec, execSamplingPhaseEnd]
      split
      · split <;> exact ⟨_, rfl⟩
      · exact ⟨_, rfl⟩
    | _ => exact ⟨_, rfl⟩

/-! ### The names in the Job Table (R1, R15) -/

namespace State

variable {s t : State}

/-- The names in `t`'s table are those of `s`'s, in their order, or some of them. -/
def FewerNames (s t : State) : Prop := (t.jobs.map Job.id).Sublist (s.jobs.map Job.id)

theorem FewerNames.of_engine (f : s.EngineFrame t) : s.FewerNames t := by
  unfold FewerNames; rw [f.ids]

theorem FewerNames.of_shares {g : HostId} (f : s.SharesFrame g t) : s.FewerNames t := f.ids

theorem withoutHost_fewer (s : State) (h : HostId) (ended : SessionState) :
    s.FewerNames (s.withoutHost h ended) := (List.filter_sublist ..).map _

theorem generatorEdge_fewer (s : State) (p : PinId) (rising : Bool) (g : GeneratorId) :
    s.FewerNames (s.generatorEdge p rising g) := by
  rcases s.generatorEdge_frame p rising g with e | ⟨-, f⟩
  · rw [e]; exact .refl _
  · exact FewerNames.of_engine (s := s.setGenerator g _) f

theorem settle_fewer (s : State) (l : List CompletionShare) (removed : JobId → Bool) :
    s.FewerNames (s.settle l removed) := by
  unfold settle
  split
  · split
    · obtain ⟨g, f⟩ := s.takeShares_framed l
      exact .of_shares f
    · exact .refl _
  · exact .refl _

end State

/-- Every event but an admission leaves names in place or removes some. -/
theorem Event.names {s t : State} (e : Event s t) :
    s.FewerNames t ∨ ∃ j, s.slotRuleAdmits j.id.owner = true ∧
      ({ s with jobs := s.jobs ++ [j] } : State).FewerNames t := by
  have same : s.FewerNames s := .refl _
  cases e with
  | port h p _ => exact .inl same
  | renewed h _ => exact .inl same
  | opened h o _ => exact .inl same
  | torn h ended _ _ =>
    exact .inl (((State.FewerNames.of_engine (s.teardown_frame h ended)).trans
      (State.withoutHost_fewer ..)).trans (s.settle_fewer ..))
  | optionsReplaced h o _ =>
    exact .inl (State.FewerNames.of_engine (s := s.withOptions h o) (s.replaceOptions_frame h o))
  | admission h j _ hj _ slot =>
    exact .inr ⟨j, by rw [hj.owner]; exact slot, .of_engine (s.admitJob_frame j)⟩
  | withdrawn id => exact .inl (.of_shares (s.withdrawal_shares id))
  | channel c x hx => exact .inl same
  | generator g x _ => exact .inl same
  | started g _ _ =>
    exact .inl (State.FewerNames.of_engine (s := s.setGenerator g _) (s.startGenerator_frame g))
  | expired g _ =>
    exact .inl (State.FewerNames.of_engine (s := s.setGenerator g _)
      ((s.fireGenerator_frame g).trans (State.schedule_engine _)))
  | watch w x _ => exact .inl same
  | recordLeft h =>
    cases hq : (s.resultQueue h).records with
    | nil => rw [s.recordLeaves_nil hq]; exact .inl same
    | cons r rest =>
      rw [s.recordLeaves_eq hq]
      exact .inl (State.FewerNames.of_engine (s := s.withoutHead h rest) (State.schedule_engine _))
  | noticeLeft h => exact .inl same
  | discardedLowered h n => exact .inl same
  | staleReached h => rw [s.reachStale_rest h]; exact .inl same
  | edge p level order =>
    exact .inl (State.takeEdge_keeps (P := s.FewerNames) _ order
      (fun u g hu => (u.generatorEdge_fewer ..).trans hu)
      (fun u hu => (State.FewerNames.of_engine (u.deliver_engine _)).trans hu)
      (fun u hu => (State.FewerNames.of_engine u.schedule_engine).trans hu) same)
  | sampled ctx input _ _ => exact .inl same
  | shares l =>
    obtain ⟨g, f⟩ := s.takeShares_framed l
    exact .inl (.of_shares f)

namespace State

variable {s t : State}

theorem slotsHeld_eq_names (s : State) (h : HostId) :
    s.slotsHeld h = (s.jobs.map Job.id).countP (·.owner == h) := by
  simp [slotsHeld, List.countP_map, Function.comp_def]

/-- Slots given up keep the law: a freed slot raises the unused guarantees by one at most (R15). -/
theorem slotLaw_of_fewer (f : s.FewerNames t) (hs : s.slotLaw) : t.slotLaw := by
  have fewer (h : HostId) : t.slotsHeld h ≤ s.slotsHeld h := by
    rw [slotsHeld_eq_names, slotsHeld_eq_names]
    exact f.countP_le
  have := fewer 0
  have := fewer 1
  have := fewer 2
  have := s.slotsHeld_sum (a := 0) (b := 1) (c := 2) (by decide) (by decide) (by decide)
  have := t.slotsHeld_sum (a := 0) (b := 1) (c := 2) (by decide) (by decide) (by decide)
  rw [slotLaw_iff _ (a := 0) (b := 1) (c := 2) (by decide) (by decide) (by decide)] at hs ⊢
  omega

end State

/-! ### Generator, watch and port records (R92, R96, R112, R113, R159) -/

/-- What a generator's programming and its accumulator satisfy in every state (R96, R100). -/
def Generator.Fit (x : Generator) : Prop :=
  x.accumulator ≤ 15 ∧ (x.mode ≠ .once → x.period ≠ 0 ∧ x.fraction.toNat ≤ 15) ∧
  (x.mode = .burst → x.burst ≠ 0)

/-- The law of one generator record (R92, R96, R100). -/
def Generator.Lawful (x : Generator) : Prop :=
  (x.owner = none → x.state = .stopped) ∧
  (x.remaining.isSome ↔ x.state = .delaying ∨ x.state = .running) ∧ x.Fit

/-- The law of one watch record (R112, R113). -/
def Watch.Lawful (x : Watch) : Prop := (x.owner = none → x.state = .unknown) ∧ x.low ≤ x.high

namespace Generator

variable {x y : Generator}

theorem Lawful.fit (hx : x.Lawful) : x.Fit := hx.2.2

theorem Lawful.owned (hx : x.Lawful) (hs : x.state ≠ .stopped) : x.owner ≠ none := fun h => hs (hx.1 h)

/-- At rest a generator is lawful whatever its owner (R95, R101, R102). -/
theorem stopped_lawful (hx : x.Fit) : x.stopped.Lawful :=
  ⟨fun _ => rfl, by simp [stopped], hx⟩

/-- The accumulator carries: two values below 16 sum to less than 32 (R100). -/
theorem nextInterval_lawful (hx : x.Fit) (ho : x.owner ≠ none) (hm : x.mode ≠ .once) :
    x.nextInterval.Lawful := by
  obtain ⟨ha, hp, hb⟩ := hx
  have hf := (hp hm).2
  unfold nextInterval
  dsimp only
  split
  · have carried : x.accumulator + x.fraction.toNat - 16 ≤ 15 := by omega
    exact ⟨fun h => absurd h ho, by simp, carried, hp, hb⟩
  · have kept : x.accumulator + x.fraction.toNat ≤ 15 := by omega
    exact ⟨fun h => absurd h ho, by simp, kept, hp, hb⟩

theorem fired_lawful (hx : x.Fit) (ho : x.owner ≠ none) : x.fired.Lawful := by
  unfold fired
  dsimp only
  split
  · exact stopped_lawful (x := { x with firings := x.firings + 1 }) hx
  · next he =>
    refine nextInterval_lawful (x := { x with firings := x.firings + 1 }) hx ho ?_
    intro (hm : x.mode = .once)
    simp [endsAt, hm] at he

theorem entered_lawful (hx : x.Fit) (ho : x.owner ≠ none) : x.entered.Lawful := by
  unfold entered
  split
  · exact fired_lawful (x := { x with state := .delaying, remaining := none }) hx ho
  · exact ⟨fun h => absurd h ho, by simp, hx⟩

theorem started_lawful (hx : x.Lawful) (ho : x.owner ≠ none) (hs : x.state = .stopped) :
    x.started.Lawful := by
  obtain ⟨-, hr, -, hp⟩ := hx
  have fresh : ({ x with firings := 0, accumulator := 0 } : Generator).Fit := ⟨Nat.zero_le _, hp⟩
  have idle : x.remaining.isSome = false := by simpa [hs] using hr
  unfold started
  dsimp only
  split
  · exact entered_lawful fresh ho
  · exact ⟨fun h => absurd h ho, by simp [idle], fresh⟩

theorem tick_lawful (hx : x.Lawful) : x.tick.Lawful := by
  obtain ⟨ho, hr, hf⟩ := hx
  exact ⟨ho, by simpa [tick] using hr, hf⟩

/-- An edit of a command keeps the law (R94, R95, R96, R102). -/
theorem Edit.lawful {attached : HostId → Prop} (e : x.Edit attached y) (hx : x.Lawful) : y.Lawful := by
  cases e with
  | claim h _ => exact ⟨fun hn => (by cases hn), hx.2⟩
  | release => exact ⟨fun _ => rfl, (stopped_lawful hx.fit).2⟩
  | program p hp =>
    obtain ⟨ho, hr, ha, -, -⟩ := hx
    refine ⟨ho, hr, ha, fun hm => ?_, fun hm => ?_⟩
    · have hm : p.mode ≠ .once := hm
      show p.period ≠ 0 ∧ p.fraction.toNat ≤ 15
      cases h : p.mode <;> simp_all [TriggerProgram.fits]
    · have hm : p.mode = .burst := hm
      show p.burst ≠ 0
      simp_all [TriggerProgram.fits]
  | stop => exact stopped_lawful hx.fit

end Generator

namespace State

theorem setGenerator_lawful {s t : State} {g : GeneratorId} {x : Generator}
    (f : (s.setGenerator g x).EngineFrame t) (hx : x.Lawful) (hs : s.generatorLaw) : t.generatorLaw := by
  intro i
  rw [f.generator i, setGenerator_generator]
  split
  · exact hx
  · exact hs i

theorem generatorLaw_of_eq {s t : State} (h : t.generators = s.generators) (hs : s.generatorLaw) :
    t.generatorLaw := fun g => by
  rw [show t.generator g = s.generator g from congrArg (·.get g) h]; exact hs g

theorem generatorLaw_of_map {s t : State} {f : Generator → Generator}
    (h : t.generators = s.generators.map f) (hf : ∀ x : Generator, x.Lawful → (f x).Lawful)
    (hs : s.generatorLaw) : t.generatorLaw := fun g => by
  rw [show t.generator g = f (s.generator g) from by
    rw [generator, h, Table.get_map]; rfl]
  exact hf _ (hs g)

theorem settle_generators (s : State) (l : List CompletionShare) (removed : JobId → Bool) :
    (s.settle l removed).generators = s.generators := by
  unfold settle
  split
  · split
    · obtain ⟨g, f⟩ := s.takeShares_framed l
      exact f.generators
    · rfl
  · rfl

end State

theorem Event.generatorLaw {s t : State} (e : Event s t) (hs : s.generatorLaw) : t.generatorLaw := by
  have owned {g : GeneratorId} (hn : (s.generator g).state ≠ .stopped) : (s.generator g).owner ≠ none :=
    Generator.Lawful.owned (hs g) hn
  cases e with
  | port h p _ => exact hs
  | renewed h _ => exact hs
  | opened h o _ => exact hs
  | torn h ended _ _ =>
    have hv := State.generatorLaw_of_eq (s.settle_generators [.watch, .job] fun id => id.owner == h) hs
    refine State.generatorLaw_of_eq (s.teardown_frame h ended).generators ?_
    refine State.generatorLaw_of_map rfl (fun x hx => ?_) hv
    split
    · exact ⟨fun _ => rfl, (Generator.stopped_lawful hx.fit).2⟩
    · exact hx
  | optionsReplaced h o _ => exact State.generatorLaw_of_eq (s.replaceOptions_frame h o).generators hs
  | admission h j _ _ _ _ => exact State.generatorLaw_of_eq (s.admitJob_frame j).generators hs
  | withdrawn id => exact State.generatorLaw_of_eq (s.withdrawal_shares id).generators hs
  | channel c x _ => exact hs
  | generator g x hx => exact State.setGenerator_lawful (.refl _) (hx.lawful (hs g)) hs
  | started g ho hst =>
    exact State.setGenerator_lawful (s.startGenerator_frame g) (Generator.started_lawful (hs g) ho hst) hs
  | expired g hn =>
    exact State.setGenerator_lawful ((s.fireGenerator_frame g).trans (State.schedule_engine _))
      (Generator.fired_lawful (Generator.Lawful.fit (hs g)) (owned hn)) hs
  | watch w x _ => exact hs
  | recordLeft h =>
    cases hq : (s.resultQueue h).records with
    | nil => rw [s.recordLeaves_nil hq]; exact hs
    | cons r rest =>
      rw [s.recordLeaves_eq hq]
      exact State.generatorLaw_of_eq (State.schedule_engine (s.withoutHead h rest)).generators hs
  | noticeLeft h => exact hs
  | discardedLowered h n => exact hs
  | staleReached h => rw [s.reachStale_rest h]; exact hs
  | edge p level order =>
    refine State.takeEdge_keeps (P := State.generatorLaw) _ order (fun u g hu => ?_)
      (fun u hu => State.generatorLaw_of_eq (u.deliver_engine _).generators hu)
      (fun u hu => State.generatorLaw_of_eq u.schedule_engine.generators hu) ?_
    · rcases u.generatorEdge_frame p level g with e | ⟨hw, f⟩
      · rw [e]; exact hu
      · have ho := Generator.Lawful.owned (hu g) (by rw [hw]; decide)
        exact State.setGenerator_lawful f (Generator.entered_lawful (Generator.Lawful.fit (hu g)) ho) hu
    · exact hs
  | sampled ctx input _ _ => exact hs
  | shares l =>
    obtain ⟨g, f⟩ := s.takeShares_framed l
    exact State.generatorLaw_of_eq f.generators hs

namespace State

theorem watchLaw_of_eq {s t : State} (h : t.watches = s.watches) (hs : s.watchLaw) : t.watchLaw :=
  fun w => by rw [show t.watch w = s.watch w from congrArg (·.get w) h]; exact hs w

theorem watchLaw_of_shares {g : HostId} {s t : State} (f : s.SharesFrame g t) (hs : s.watchLaw) :
    t.watchLaw := fun w => by
  have hw : (t.watch w).owner = (s.watch w).owner := by rw [f.share.watch w]; rfl
  refine ⟨fun ho => ?_, ?_⟩
  · rw [f.share.free w (hw ▸ ho)]
    exact (hs w).1 (hw ▸ ho)
  · rw [f.share.watch w]
    exact (hs w).2

theorem settle_watchLaw {s : State} (l : List CompletionShare) (removed : JobId → Bool)
    (hs : s.watchLaw) : (s.settle l removed).watchLaw := by
  unfold settle
  split
  · split
    · obtain ⟨g, f⟩ := s.takeShares_framed l
      exact watchLaw_of_shares f hs
    · exact hs
  · exact hs

end State

theorem Event.watchLaw {s t : State} (e : Event s t) (hs : s.watchLaw) : t.watchLaw := by
  cases e with
  | port h p _ => exact hs
  | renewed h _ => exact hs
  | opened h o _ => exact hs
  | torn h ended _ _ =>
    have hv := State.settle_watchLaw [.watch, .job] (fun id => id.owner == h) hs
    refine State.watchLaw_of_eq (s.teardown_frame h ended).watches fun w => ?_
    have : ((s.settle [.watch, .job] fun id => id.owner == h).withoutHost h ended).watch w = _ :=
      Table.get_map ..
    rw [this]
    split
    · exact ⟨fun _ => rfl, (hv w).2⟩
    · exact hv w
  | optionsReplaced h o _ => exact State.watchLaw_of_eq (s.replaceOptions_frame h o).watches hs
  | admission h j _ _ _ _ => exact State.watchLaw_of_eq (s.admitJob_frame j).watches hs
  | withdrawn id => exact State.watchLaw_of_shares (s.withdrawal_shares id) hs
  | channel c x _ => exact hs
  | generator g x _ => exact hs
  | started g _ _ => exact State.watchLaw_of_eq (s.startGenerator_frame g).watches hs
  | expired g _ =>
    exact State.watchLaw_of_eq ((s.fireGenerator_frame g).trans (State.schedule_engine _)).watches hs
  | watch w x hx =>
    intro v
    rw [State.setWatch_watch]
    split
    · exact ⟨fun _ => hx.unknown, hx.window (hs w).2⟩
    · exact hs v
  | recordLeft h =>
    cases hq : (s.resultQueue h).records with
    | nil => rw [s.recordLeaves_nil hq]; exact hs
    | cons r rest =>
      rw [s.recordLeaves_eq hq]
      exact State.watchLaw_of_eq (State.schedule_engine (s.withoutHead h rest)).watches hs
  | noticeLeft h => exact hs
  | discardedLowered h n => exact hs
  | staleReached h => rw [s.reachStale_rest h]; exact hs
  | edge p level order =>
    refine State.takeEdge_keeps (P := State.watchLaw) _ order (fun u g hu => ?_)
      (fun u hu => State.watchLaw_of_eq (u.deliver_engine _).watches hu)
      (fun u hu => State.watchLaw_of_eq u.schedule_engine.watches hu) hs
    rcases u.generatorEdge_frame p level g with e | ⟨-, f⟩
    · rw [e]; exact hu
    · exact State.watchLaw_of_eq f.watches hu
  | sampled ctx input _ _ => exact hs
  | shares l =>
    obtain ⟨g, f⟩ := s.takeShares_framed l
    exact State.watchLaw_of_shares f hs

namespace State

theorem portLaw_of_eq {s t : State} (h : t.ports = s.ports) (hs : s.portLaw) : t.portLaw :=
  fun g hg => by rw [show t.port g = s.port g from congrArg (·.get g) h]; exact hs g hg

theorem settle_ports (s : State) (l : List CompletionShare) (removed : JobId → Bool) :
    (s.settle l removed).ports = s.ports := by
  unfold settle
  split
  · split
    · obtain ⟨g, f⟩ := s.takeShares_framed l
      exact f.ports
    · rfl
  · rfl

end State

/-- Every event but that of a port leaves the ports. -/
theorem Event.portLaw {s t : State} (e : Event s t) (hs : s.portLaw) : t.portLaw := by
  cases e with
  | port h p sound =>
    intro g hg
    rw [State.setPort_port]
    split
    · next e => exact sound (hs h (e ▸ hg))
    · exact hs g hg
  | renewed h _ => exact hs
  | opened h o _ => exact hs
  | torn h ended _ _ =>
    refine State.portLaw_of_eq (s.teardown_frame h ended).ports ?_
    exact State.portLaw_of_eq (s.settle_ports [.watch, .job] fun id => id.owner == h) hs
  | optionsReplaced h o _ => exact State.portLaw_of_eq (s.replaceOptions_frame h o).ports hs
  | admission h j _ _ _ _ => exact State.portLaw_of_eq (s.admitJob_frame j).ports hs
  | withdrawn id => exact State.portLaw_of_eq (s.withdrawal_shares id).ports hs
  | channel c x _ => exact hs
  | generator g x _ => exact hs
  | started g _ _ => exact State.portLaw_of_eq (s.startGenerator_frame g).ports hs
  | expired g _ =>
    exact State.portLaw_of_eq ((s.fireGenerator_frame g).trans (State.schedule_engine _)).ports hs
  | watch w x hx => exact hs
  | recordLeft h =>
    cases hq : (s.resultQueue h).records with
    | nil => rw [s.recordLeaves_nil hq]; exact hs
    | cons r rest =>
      rw [s.recordLeaves_eq hq]
      exact State.portLaw_of_eq (State.schedule_engine (s.withoutHead h rest)).ports hs
  | noticeLeft h => exact hs
  | discardedLowered h n => exact hs
  | staleReached h => rw [s.reachStale_rest h]; exact hs
  | edge p level order =>
    refine State.takeEdge_keeps (P := State.portLaw) _ order (fun u g hu => ?_)
      (fun u hu => State.portLaw_of_eq (u.deliver_engine _).ports hu)
      (fun u hu => State.portLaw_of_eq u.schedule_engine.ports hu) hs
    rcases u.generatorEdge_frame p level g with e | ⟨-, f⟩
    · rw [e]; exact hu
    · exact State.portLaw_of_eq f.ports hu
  | sampled ctx input _ _ => exact hs
  | shares l =>
    obtain ⟨g, f⟩ := s.takeShares_framed l
    exact State.portLaw_of_eq f.ports hs

/-! ### The statements -/

theorem State.afterReset_slotLaw (straps : Straps) : (State.afterReset straps).slotLaw := by
  rw [State.slotLaw_iff _ (a := 0) (b := 1) (c := 2) (by decide) (by decide) (by decide)]
  show 0 + ((4 - 0) + (4 - 0) + (4 - 0)) ≤ 24
  omega

theorem State.tick_timebase (s : State) : s.tick.timebase = s.timebase + 1 := rfl

theorem State.afterReset_recordLaws (straps : Straps) :
    (State.afterReset straps).generatorLaw ∧ (State.afterReset straps).watchLaw ∧
      (State.afterReset straps).portLaw := by
  refine ⟨fun g => ?_, fun w => ?_, fun h _ _ => ?_⟩
  · rw [show (State.afterReset straps).generator g = {} from Table.get_make ..]; decide
  · rw [show (State.afterReset straps).watch w = {} from Table.get_make ..]; decide
  · rw [show (State.afterReset straps).port h = {} from Table.get_make ..]

/-- Settles O6: names leave the table, or a job is admitted by the slot rule. -/
theorem everyStepKeepsTheSlotLaw : Obligations.EveryStepKeepsTheSlotLaw := by
  intro s t hs h
  refine step_keeps (P := State.slotLaw) (fun s t e hs => ?_) (fun _ hs => hs) (fun s hs => ?_)
    (fun s straps _ => State.afterReset_slotLaw straps) (fun _ _ hs => hs) h hs
  · rcases e.names with f | ⟨j, hadm, f⟩
    · exact State.slotLaw_of_fewer f hs
    · exact State.slotLaw_of_fewer f (s.slotLaw_append hs hadm)
  · rw [s.handOn_rest]; exact hs

/-- Settles O2: every row is total, and no event, tick, report or reset touches the queue. -/
theorem everyRowCompletesAndKeepsTheQueue : Obligations.EveryRowCompletesAndKeepsTheQueue := by
  intro i s
  obtain ⟨t, h⟩ := exec_total i s
  refine ⟨t, h, ?_⟩
  refine exec_keeps (P := fun u => u.pending = s.pending) (fun u v e hu => ?_) (fun _ hu => hu)
    (fun u hu => ?_) (fun _ _ hu => hu) h rfl
  · exact e.quiet.pending.trans hu
  · rw [u.handOn_rest]; exact hu

/-- Settles O3, by what a sequence of events leaves; the tick and the report stand at its ends. -/
theorem onlyTheirEventsMoveTimebaseAndLatestValues :
    Obligations.OnlyTheirEventsMoveTimebaseAndLatestValues := by
  intro i s t h hreset
  have latest {u : State} (q : s.Quiet u) (c : ChannelId) :
      (u.channel c).valid = (s.channel c).valid ∧ (u.channel c).code = (s.channel c).code ∧
      (u.channel c).timestamp = (s.channel c).timestamp ∧
      (u.channel c).producer = (s.channel c).producer ∧ (u.channel c).tag = (s.channel c).tag ∧
      (u.channel c).sequence = (s.channel c).sequence := by
    rw [q.latest c]; exact ⟨rfl, rfl, rfl, rfl, rfl, rfl⟩
  by_cases htick : i = .timebaseTick
  · subst htick
    rw [exec_timebaseTick, Host.Outcome.next.injEq] at h
    have q := s.beforeTick_events.quiet
    generalize s.finishCompletion.takeDue = u at h q
    subst h
    refine ⟨q.tbsel, q.adr, ?_, fun _ c => latest q c⟩
    rw [if_pos rfl, State.tick_timebase, q.timebase]
  rw [if_neg htick]
  by_cases hdone : ∃ shares, i = .conversionComplete shares
  · obtain ⟨shares, rfl⟩ := hdone
    rw [exec_conversionComplete, Host.Outcome.next.injEq] at h
    have q := (Event.shares s.handOn shares).quiet
    rw [h] at q
    refine ⟨q.tbsel.trans ?_, q.adr.trans ?_, q.timebase.trans ?_, fun hn => absurd rfl (hn shares)⟩ <;>
      rw [s.handOn_rest]
  · have q := (exec_plain_events h htick (fun x hx => hdone ⟨x, hx⟩) hreset).quiet
    exact ⟨q.tbsel, q.adr, q.timebase, fun _ => latest q⟩

/-- Settles O11, by the law of one record of each kind. -/
theorem everyStepKeepsGeneratorsWatchesAndPorts :
    Obligations.EveryStepKeepsGeneratorsWatchesAndPorts := by
  intro s t hs h
  refine step_keeps (P := fun u => u.generatorLaw ∧ u.watchLaw ∧ u.portLaw)
    (fun s t e hs => ?_) (fun s hs => ?_) (fun s hs => ?_)
    (fun s straps _ => State.afterReset_recordLaws straps) (fun _ _ hs => hs) h hs
  · obtain ⟨hg, hw, hp⟩ := hs
    exact ⟨e.generatorLaw hg, e.watchLaw hw, e.portLaw hp⟩
  · obtain ⟨hg, hw, hp⟩ := hs
    exact ⟨State.generatorLaw_of_map rfl (fun _ => Generator.tick_lawful) hg, hw, hp⟩
  · rw [s.handOn_rest]; exact hs

end Sys2Proof.Machine

/-! PROOFS. What an invariant of the queues and the scheduler has to be kept by: a structure of the
operations that the events are made of, and once for all that such an invariant is kept by every event
and so by every step. -/

namespace Sys2Proof.Machine

/-- `P` is kept by the operations of the engine: posts, arrivals, scheduling, and the things that follow
a report. -/
structure EngineKept (P : State → Prop) : Prop where
  post : ∀ s h kind subject detail, P s → P (s.post h kind subject detail)
  arrival : ∀ s id, P s → P (s.arrival id)
  select : ∀ s, P s → P s.select
  preempt : ∀ s, s.urgentWaits = true → P s → P s.preempt
  generator : ∀ s g x, x.owner = (s.generator g).owner → P s → P (s.setGenerator g x)
  watchState : ∀ s w state, (s.watch w).owner ≠ none → P s →
    P (s.setWatch w { s.watch w with state := state })
  jobTaken : ∀ s c, s.completion = some c → .job ∈ c.left → P s →
    P (((s.jobShare c.report).updateJob c.report.job Job.awaitSelection).leave .job)
  left : ∀ s c x, s.completion = some c → x ∈ c.left → x ≠ .job → (x = .select → .job ∉ c.left) →
    P s → P (s.leave x)

theorem Generator.nextInterval_owner (x : Generator) : x.nextInterval.owner = x.owner := by
  unfold nextInterval
  dsimp only
  split <;> rfl

namespace EngineKept

variable {P : State → Prop} (k : EngineKept P) {s : State}
include k

theorem schedule (hs : P s) : P s.schedule := by
  unfold State.schedule
  split
  · next hu => exact k.select _ (k.preempt _ hu hs)
  · exact k.select _ hs

theorem deliver (hits : Source → Bool) (hs : P s) : P (s.deliver hits) :=
  State.foldl_keeps s k.arrival _ hs

theorem evaluate {w : WatchId} (hw : (s.watch w).owner ≠ none) (owner : HostId) (v : Code) (hs : P s) :
    P (s.evaluate w owner v) := by
  have hset := k.watchState s w ((s.watch w).next v) hw hs
  unfold State.evaluate
  dsimp only
  split
  · exact k.deliver _ (k.post _ _ _ _ _ hset)
  · split
    · exact k.post _ _ _ _ _ hset
    · exact hset

theorem watchShare (r : Report) (hs : P s) : P (s.watchShare r) := by
  unfold State.watchShare
  split
  · refine State.foldl_keeps s (fun u w hu => ?_) _ hs
    unfold State.offerWatch
    split
    · next ho =>
      split
      · exact k.evaluate (by simp [ho]) _ _ hu
      · exact hu
    · exact hu
  · exact hs

theorem takeShare (x : CompletionShare) (hs : P s) : P (s.takeShare x) := by
  rcases s.takeShare_cases x with e | ⟨c, hc, hx, ⟨rfl, e⟩ | ⟨rfl, e⟩ | ⟨rfl, hj, e⟩⟩
  · rw [e]; exact hs
  · rw [e]
    exact k.schedule (k.watchShare _ (k.left s c _ hc hx (by decide) (by simp) hs))
  · rw [e]; exact k.jobTaken s c hc hx hs
  · rw [e]
    exact k.schedule (k.left s c _ hc hx (by decide) (fun _ => hj) hs)

theorem takeShares (l : List CompletionShare) (hs : P s) : P (s.takeShares l) :=
  State.foldl_keeps s (fun _ x => k.takeShare x) _ hs

theorem settle (l : List CompletionShare) (removed : JobId → Bool) (hs : P s) : P (s.settle l removed) := by
  unfold State.settle
  split
  · split
    · exact k.takeShares l hs
    · exact hs
  · exact hs

theorem fireGenerator (g : GeneratorId) (hs : P s) : P (s.fireGenerator g) := by
  unfold State.fireGenerator
  have hd := k.deliver (generatorHits g)
    (k.generator s g { s.generator g with firings := (s.generator g).firings + 1 } rfl hs)
  have put (x : Generator) (hx) := k.generator _ g x hx hd
  dsimp only
  split
  · split
    · exact k.post _ _ _ _ _ (put _ rfl)
    · exact put _ rfl
  · exact put _ (Generator.nextInterval_owner _)

theorem enterDelaying (g : GeneratorId) (hs : P s) : P (s.enterDelaying g) := by
  unfold State.enterDelaying
  dsimp only
  split
  · exact k.fireGenerator g (k.generator _ _ _ rfl hs)
  · exact k.generator _ _ _ rfl hs

theorem startGenerator (g : GeneratorId) (hs : P s) : P (s.startGenerator g) := by
  rw [State.startGenerator_eq]
  split
  · exact k.generator _ _ _ rfl hs
  · exact k.schedule (k.enterDelaying g (k.generator _ _ _ rfl hs))

theorem generatorEdge (p : PinId) (rising : Bool) (g : GeneratorId) (hs : P s) :
    P (s.generatorEdge p rising g) := by
  unfold State.generatorEdge
  dsimp only
  split
  · exact k.enterDelaying g hs
  · exact hs

theorem takeEdge (p : PinId) (rising : Bool) (order : EdgeOrder) (hs : P s) :
    P (s.takeEdge p rising order) :=
  s.takeEdge_keeps order (fun _ g => k.generatorEdge p rising g) (fun _ => k.deliver _)
    (fun _ => k.schedule) hs

theorem announceLeft (h : HostId) (detail : Nat) (hs : P s) : P (s.announceLeft h detail) :=
  State.foldl_keeps s (fun u g hu => k.post u g _ _ _ hu) _ hs

end EngineKept

/-- `P` is kept by the operations of the engine and by what else the events are made of. -/
structure EventKept (P : State → Prop) : Prop extends EngineKept P where
  port : ∀ s h p, P s → P (s.setPort h p)
  renewed : ∀ s h, s.isAttached h → P s → P (s.restartLease h)
  opened : ∀ s h o, ¬ s.isAttached h → P s → P (s.openSession h o)
  stripped : ∀ s h ended, ended ≠ .attached → P s →
    P (s.settle [.watch, .job] fun id => id.owner == h) →
    P ((s.settle [.watch, .job] fun id => id.owner == h).withoutHost h ended)
  options : ∀ s h o, s.isAttached h → P s → P (s.withOptions h o)
  appended : ∀ s h j, s.isAttached h → j.AtAdmission h → s.findJob j.id = none → P s →
    P (if j.state = .ready then
        { s with jobs := s.jobs ++ [j], ready := s.ready.put j.cls (s.ready.get j.cls ++ [j.id]) }
      else { s with jobs := s.jobs ++ [j] })
  removed : ∀ s id j, P s → P (s.settle [.job] (· == id)) →
    (s.settle [.job] (· == id)).findJob id = some j → P ((s.settle [.job] (· == id)).removeJob j)
  channel : ∀ s c x, (s.channel c).Edit s.isAttached x → P s → P (s.setChannel c x)
  claimed : ∀ s g x, (s.generator g).Edit s.isAttached x → P s → P (s.setGenerator g x)
  watch : ∀ s w x, (s.watch w).Edit s.isAttached x → P s → P (s.setWatch w x)
  headLeft : ∀ s h r rest, (s.resultQueue h).records = r :: rest → P s → P (s.withoutHead h rest)
  noticeLeft : ∀ s h, P s → P (s.noticeLeaves h)
  discardedLowered : ∀ s h n, P s → P (s.lowerDiscarded h n)
  staleReached : ∀ s h, P s → P (s.reachStale h)
  edge : ∀ s (samples : Table 2 Bool), P s → P { s with trigSample := samples }
  sampled : ∀ s ctx input, s.completion = none → s.converter = some ctx → P s →
    P (s.setConverter (some { ctx with phase := .converting s.timebase input }))

namespace EventKept

variable {P : State → Prop} (k : EventKept P) {s t : State}
include k

theorem teardown (h : HostId) {ended : SessionState} (he : ended ≠ .attached) (hs : P s) :
    P (s.teardown h ended) := by
  rw [State.teardown_eq]
  exact k.select _ (k.announceLeft h _ (k.stripped s h ended he hs (k.settle _ _ hs)))

theorem admitJob {h : HostId} {j : Job} (ha : s.isAttached h) (hj : j.AtAdmission h)
    (fresh : s.findJob j.id = none) (hs : P s) : P (s.admitJob j) := by
  have happ := k.appended s h j ha hj fresh hs
  unfold State.admitJob
  dsimp only
  split
  · next hr =>
    rw [if_pos hr] at happ
    exact k.schedule happ
  · next hr =>
    rw [if_neg hr] at happ
    exact happ

theorem withdrawal (id : JobId) (hs : P s) : P (s.withdrawal id) := by
  have hv := k.settle [.job] (· == id) hs
  unfold State.withdrawal
  dsimp only
  split
  · exact hv
  · next j hj =>
    have hr := k.removed s id j hs hv hj
    unfold State.withdraw
    split
    · exact k.schedule hr
    · exact hr

theorem event (e : Event s t) (hs : P s) : P t := by
  cases e with
  | port h p _ => exact k.port s h p hs
  | renewed h ha => exact k.renewed s h ha hs
  | opened h o ha => exact k.opened s h o ha hs
  | torn h ended _ he => exact k.teardown h he hs
  | optionsReplaced h o ha =>
    have ho := k.options s h o ha hs
    rw [State.replaceOptions_eq]
    split
    · exact k.schedule ho
    · exact ho
  | admission h j ha hj fresh _ => exact k.admitJob ha hj fresh hs
  | withdrawn id => exact k.withdrawal id hs
  | channel c x hx => exact k.channel s c x hx hs
  | generator g x hx => exact k.claimed s g x hx hs
  | started g _ _ => exact k.startGenerator g hs
  | expired g _ => exact k.schedule (k.fireGenerator g hs)
  | watch w x hx => exact k.watch s w x hx hs
  | recordLeft h =>
    cases hq : (s.resultQueue h).records with
    | nil => rw [s.recordLeaves_nil hq]; exact hs
    | cons r rest =>
      rw [s.recordLeaves_eq hq]
      exact k.schedule (k.headLeft s h r rest hq hs)
  | noticeLeft h => exact k.noticeLeft s h hs
  | discardedLowered h n => exact k.discardedLowered s h n hs
  | staleReached h => exact k.staleReached s h hs
  | edge p level order => exact k.takeEdge p level order (k.edge s _ hs)
  | sampled ctx input hc hx => exact k.sampled s ctx input hc hx hs
  | shares l => exact k.takeShares l hs

end EventKept
end Sys2Proof.Machine

/-! PROOFS. The capacities of the queues and the holdings (sections 4.2, 7.2, 8.1): what an invariant of
the queues has to be kept by, whatever the job records' marks and the scheduler's lists do, and the two
statements. -/

namespace Sys2Proof.Machine

/-- `P` looks at the queues, at the owners of jobs and at sessions, and is kept by what the engine does
to a queue. -/
structure QueueKept (P : State → Prop) : Prop where
  jobs : ∀ s f, (∀ j : Job, (f j).id = j.id) → P s → P (s.setJobs (s.jobs.map f))
  removal : ∀ s (p : Job → Bool), P s → P (s.setJobs (s.jobs.filter p))
  ready : ∀ s c ids, P s → P (s.setReady c ids)
  marker : ∀ s c m, P s → P (s.setMarker c m)
  rotation : ∀ s c h, P s → P (s.setRotation c h)
  converter : ∀ s c, P s → P (s.setConverter c)
  completion : ∀ s c, P s → P (s.setCompletion c)
  post : ∀ s h kind subject detail, P s → P (s.post h kind subject detail)
  closed : ∀ s h c, P s → P (s.setAccount h c none)
  reserved : ∀ s (id : JobId) c n, id ∈ s.jobs.map Job.id → n ≤ (s.resultQueue id.owner).freePlaces →
    P s → P (s.setAccount id.owner c (some n))
  toppedUp : ∀ s (id : JobId) c held n, id ∈ s.jobs.map Job.id → s.account id.owner c = some held →
    n ≤ (s.resultQueue id.owner).freePlaces → P s → P (s.setAccount id.owner c (some (held + n)))
  offered : ∀ s id c r, id ∈ s.jobs.map Job.id → P s → P (s.offer id c r)

namespace QueueKept

variable {P : State → Prop} (k : QueueKept P) {s : State}
include k

theorem updateJob (id : JobId) {f : Job → Job} (hf : ∀ j, (f j).id = j.id) (hs : P s) :
    P (s.updateJob id f) :=
  k.jobs s _ (fun j => by split <;> simp [hf]) hs

theorem makeReady (id : JobId) (c : JobClass) (hs : P s) : P (s.makeReady id c) :=
  k.ready _ _ _ (k.updateJob id (by intro; rfl) hs)

theorem overrun (j : Job) (hs : P s) : P (s.overrun j) := by
  unfold State.overrun
  dsimp only
  split
  · exact k.updateJob _ (by intro; rfl) hs
  · exact k.updateJob _ (by intro; rfl) (k.post _ _ _ _ _ hs)

theorem acceptRestart (j : Job) (hs : P s) : P (s.acceptRestart j) := by
  unfold State.acceptRestart
  dsimp only
  split
  · exact k.updateJob _ (by intro; rfl) (k.converter _ _ hs)
  · exact k.updateJob _ (by intro; rfl) hs

theorem restartPass {j : Job} (hj : j.id ∈ s.jobs.map Job.id) (hs : P s) : P (s.restartPass j) := by
  rcases s.restartPass_cases j with ⟨-, -, e⟩ | ⟨-, ⟨-, e⟩ | ⟨held, hh, e⟩⟩
  · rw [e]; exact k.overrun j hs
  · rw [e]; exact k.acceptRestart j hs
  · rw [e]
    split
    · next hp => exact k.acceptRestart j (k.toppedUp s j.id j.cls held _ hj hh hp hs)
    · exact k.overrun j hs

theorem arrival (id : JobId) (hs : P s) : P (s.arrival id) := by
  unfold State.arrival
  split
  · exact hs
  · next j hj =>
    have hmem : j.id ∈ s.jobs.map Job.id := List.mem_map_of_mem (s.findJob_mem hj)
    split
    · exact k.makeReady _ _ hs
    · exact k.overrun j hs
    · unfold State.holdArrival
      split
      · exact k.overrun j hs
      · exact k.updateJob _ (by intro; rfl) hs
    · exact k.overrun j hs
    · exact k.restartPass hmem hs

theorem startConversion (id : JobId) (hs : P s) : P (s.startConversion id) := by
  unfold State.startConversion
  split
  · exact hs
  · split
    · exact hs
    · exact k.converter _ _ hs

theorem grant {j : Job} (hj : j.id ∈ s.jobs.map Job.id)
    (hfit : j.dest = .queue → (s.session j.id.owner).options.fullPolicy = .wait →
      j.entries.length ≤ (s.resultQueue j.id.owner).freePlaces) (hs : P s) : P (s.grant j) := by
  have hrot := k.rotation _ j.cls j.id.owner (k.marker _ j.cls (some j.id)
    (k.ready s j.cls ((s.ready.get j.cls).erase j.id) hs))
  unfold State.grant State.reserve
  dsimp only
  refine k.startConversion _ (k.updateJob _ (by intro; rfl) ?_)
  split
  · next hq => exact k.reserved _ j.id j.cls _ hj (hfit hq.1 hq.2) hrot
  · exact hrot

theorem select (hs : P s) : P s.select := by
  rcases s.select_cases with e | ⟨c, -, -, -, e⟩
  · rw [e]; exact hs
  · rw [e]
    have hy := k.jobs s _ (State.yieldTo_id c) hs
    rcases s.serve_cases c with ⟨id, -, e⟩ | ⟨j, -, hc, e⟩ | ⟨-, -, e⟩
    · rw [e]
      exact k.startConversion _ (k.updateJob _ (by intro; rfl) hy)
    · rw [e]
      obtain ⟨-, hj, he⟩ := s.mem_eligibleJobs (s.chosenJob_mem hc)
      refine k.grant ?_ (fun hd hp => ?_) hy
      · rw [(s.yield_engine c).ids]
        exact List.mem_map_of_mem (s.findJob_mem hj)
      · have hp : (s.session j.id.owner).options.fullPolicy = .wait := hp
        have fits : j.state = .ready ∧ j.entries.length ≤ (s.resultQueue j.id.owner).freePlaces := by
          simpa [State.eligible, hd, hp] using he
        exact fits.2
    · rw [e]; exact hy

theorem preempt (hs : P s) : P s.preempt := by
  unfold State.preempt
  split
  · exact hs
  · exact k.converter _ _ (k.updateJob _ (by intro; rfl) hs)

theorem post_if (q : Prop) [Decidable q] (h : HostId) (kind : NoticeKind) (subject : Byte)
    (detail : Nat) (hs : P s) : P (if q then s.post h kind subject detail else s) := by
  split
  · exact k.post _ _ _ _ _ hs
  · exact hs

theorem endPass (j : Job) (hs : P s) : P (s.endPass j) := by
  have hclosed : P (s.closePass j) := by
    unfold State.closePass
    dsimp only
    exact k.closed _ _ _ (k.marker _ _ _ (k.post_if _ _ _ _ _ (k.post_if _ _ _ _ _
      (k.updateJob _ (by intro; rfl) hs))))
  rw [State.endPass_eq]
  unfold State.dispose
  split
  · exact k.removal _ _ (k.post _ _ _ _ _ hclosed)
  · split
    · exact k.makeReady _ _ (k.updateJob _ (by intro; rfl) hclosed)
    · split
      · exact k.makeReady _ _ hclosed
      · exact k.updateJob _ (by intro; rfl) hclosed

theorem jobShare (r : Report) (hs : P s) : P (s.jobShare r) := by
  cases hj : s.findJob r.job with
  | none => rw [s.jobShare_none hj]; exact hs
  | some j =>
    have hoff : P (s.offerRecord j r) := by
      unfold State.offerRecord
      split
      · exact k.offered _ _ _ _ (List.mem_map_of_mem (s.findJob_mem hj)) hs
      · exact hs
    rw [s.jobShare_some hj]
    split
    · exact hoff
    · split
      · exact k.endPass _ hoff
      · exact k.updateJob _ (by intro; rfl) hoff

theorem clearJob (j : Job) (hs : P s) : P (s.clearJob j) := by
  have aborted {u : State} (hu : P u) : P (if u.executes j.id then u.abort else u) := by
    split
    · exact k.converter _ _ hu
    · exact hu
  have closed {u : State} (hu : P u) :
      P (if j.inPass then (u.setMarker j.cls none).setAccount j.id.owner j.cls none else u) := by
    split
    · exact k.closed _ _ _ (k.marker _ _ _ hu)
    · exact hu
  exact closed (aborted (k.ready _ _ _ hs))

theorem removeJob (j : Job) (hs : P s) : P (s.removeJob j) := by
  rw [State.removeJob_eq]
  exact k.removal _ _ (k.clearJob j hs)

theorem jobTaken (r : Report) (hs : P s) :
    P (((s.jobShare r).updateJob r.job Job.awaitSelection).leave .job) :=
  k.completion _ _ (k.updateJob _ (fun j => by unfold Job.awaitSelection; split <;> rfl) (k.jobShare r hs))

/-- Such an invariant is kept by the engine once it is kept by what the engine does to generators and
watches. -/
theorem engine (hgen : ∀ s g x, x.owner = (s.generator g).owner → P s → P (s.setGenerator g x))
    (hwatch : ∀ s w state, (s.watch w).owner ≠ none → P s →
      P (s.setWatch w { s.watch w with state := state })) : EngineKept P where
  post := k.post
  arrival _ id := k.arrival id
  select _ := k.select
  preempt _ _ := k.preempt
  generator := hgen
  watchState := hwatch
  jobTaken _ c _ _ := k.jobTaken c.report
  left _ _ _ _ _ _ _ := k.completion _ _

end QueueKept

/-! ### Capacities (R72, R128) -/

/-- Records and reserved places of a queue within its 64 (R72). -/
def ResultQueue.Fits (q : ResultQueue) : Prop := q.records.length + q.reserved ≤ 64

/-- Notices within 16 and the lost count within 255 (R128). -/
def NoticeQueue.Fits (q : NoticeQueue) : Prop := q.notices.length ≤ 16 ∧ q.lost ≤ 255

namespace ResultQueue.Fits

variable {q : ResultQueue} {c : JobClass}

/-- An emptied queue; its discarded-records count is kept (R89). -/
theorem empty (n : Nat) : ({ discarded := n } : ResultQueue).Fits := Nat.zero_le 64

theorem withoutHead {r : ResultRecord} {rest : List ResultRecord} (hq : q.Fits)
    (hr : q.records = r :: rest) (mark : Bool) :
    ({ q with records := rest, staleMark := mark } : ResultQueue).Fits := by
  have e : ({ q with records := rest, staleMark := mark } : ResultQueue).reserved = q.reserved := rfl
  unfold Fits at *
  rw [e]
  rw [hr, List.length_cons] at hq
  exact Nat.le_trans (Nat.add_le_add_right (Nat.le_succ _) _) hq

theorem closed (hq : q.Fits) : ({ q with accounts := q.accounts.put c none } : ResultQueue).Fits := by
  have := q.reserved_put c none
  unfold Fits at *
  dsimp only [Option.getD_none] at *
  omega

theorem reserved {n : Nat} (hq : q.Fits) (hn : n ≤ q.freePlaces) :
    ({ q with accounts := q.accounts.put c (some n) } : ResultQueue).Fits := by
  have := q.reserved_put c (some n)
  unfold Fits ResultQueue.freePlaces Config.resultPlaces at *
  dsimp only [Option.getD_some] at *
  omega

theorem toppedUp {held n : Nat} (hq : q.Fits) (hh : q.accounts.get c = some held) (hn : n ≤ q.freePlaces) :
    ({ q with accounts := q.accounts.put c (some (held + n)) } : ResultQueue).Fits := by
  have := q.reserved_put c (some (held + n))
  rw [hh] at this
  unfold Fits ResultQueue.freePlaces Config.resultPlaces at *
  dsimp only [Option.getD_some] at *
  omega

theorem drawn {left : Nat} (hq : q.Fits) (hl : q.accounts.get c = some (left + 1)) :
    ({ q with accounts := q.accounts.put c (some left) } : ResultQueue).Fits := by
  have := q.reserved_put c (some left)
  rw [hl] at this
  unfold Fits at *
  dsimp only [Option.getD_some] at *
  omega

/-- A record that takes a reserved place (R75). -/
theorem placed_reserved {left : Nat} (hq : q.Fits) (hl : q.accounts.get c = some (left + 1))
    {records : List ResultRecord} (hr : records.length = q.records.length + 1) {mark : Bool} :
    (⟨records, q.accounts.put c (some left), mark, q.discarded⟩ : ResultQueue).Fits := by
  have := q.reserved_put c (some left)
  rw [hl] at this
  unfold Fits at *
  have e : (⟨records, q.accounts.put c (some left), mark, q.discarded⟩ : ResultQueue).reserved =
    ({ q with accounts := q.accounts.put c (some left) } : ResultQueue).reserved := rfl
  rw [e]
  dsimp only [Option.getD_some] at *
  omega

/-- A record that takes a free place (R76). -/
theorem placed_free (hq : q.Fits) (hf : 0 < q.freePlaces) {records : List ResultRecord}
    (hr : records.length = q.records.length + 1) {mark : Bool} :
    (⟨records, q.accounts, mark, q.discarded⟩ : ResultQueue).Fits := by
  unfold Fits ResultQueue.freePlaces Config.resultPlaces at *
  have e : (⟨records, q.accounts, mark, q.discarded⟩ : ResultQueue).reserved = q.reserved := rfl
  rw [e]
  dsimp only at *
  omega

end ResultQueue.Fits

namespace State

/-- Every queue within its capacity. -/
def QueuesFit (s : State) : Prop := (∀ h, (s.resultQueue h).Fits) ∧ ∀ h, (s.noticeQueue h).Fits

theorem mem_allHosts (h : HostId) : h ∈ allHosts := by revert h; decide

theorem queuesFit_iff (s : State) : s.QueuesFit ↔ s.resultLaw ∧ s.noticeLaw :=
  ⟨fun ⟨hr, hn⟩ => ⟨fun h _ => hr h, fun h _ => hn h⟩,
    fun ⟨hr, hn⟩ => ⟨fun h => hr h (mem_allHosts h), fun h => hn h (mem_allHosts h)⟩⟩

namespace QueuesFit

variable {s : State}

theorem setResultQueue (hs : s.QueuesFit) (h : HostId) {q : ResultQueue} (hq : q.Fits) :
    (s.setResultQueue h q).QueuesFit := by
  refine ⟨fun g => ?_, hs.2⟩
  rw [setResultQueue_resultQueue]
  split
  · exact hq
  · exact hs.1 g

theorem setNoticeQueue (hs : s.QueuesFit) (h : HostId) {q : NoticeQueue} (hq : q.Fits) :
    (s.setNoticeQueue h q).QueuesFit := by
  refine ⟨hs.1, fun g => ?_⟩
  rw [setNoticeQueue_noticeQueue]
  split
  · exact hq
  · exact hs.2 g

theorem post (hs : s.QueuesFit) (h : HostId) (kind : NoticeKind) (subject : Byte) (detail : Nat) :
    (s.post h kind subject detail).QueuesFit := by
  unfold State.post
  split
  · exact hs.setNoticeQueue h (NoticeQueue.take_bounds _ _ (hs.2 h).1)
  · exact hs

/-- A record that joins, with the accounts as they then stand. -/
theorem appendRecord (hs : s.QueuesFit) (h : HostId) (r : ResultRecord)
    (hq : ∀ mark, (⟨(s.resultQueue h).records ++ [r], (s.resultQueue h).accounts, mark,
      (s.resultQueue h).discarded⟩ : ResultQueue).Fits) : (s.appendRecord h r).QueuesFit := by
  obtain ⟨e, others⟩ := s.appendRecord_rest h r
  refine ⟨fun g => ?_, fun g => by rw [e]; exact hs.2 g⟩
  by_cases hg : g = h
  · rw [hg, appendRecord_resultQueue]; exact hq _
  · rw [others g hg]; exact hs.1 g

theorem offer (hs : s.QueuesFit) (id : JobId) (c : JobClass) (r : ResultRecord) :
    (s.offer id c r).QueuesFit := by
  unfold State.offer
  rcases (s.resultQueue id.owner).placement_cases c with ⟨left, hl, e⟩ | ⟨-, hf, e⟩ | ⟨-, -, e⟩
  · simp only [e]
    refine appendRecord (s := s.setAccount id.owner c (some left)) ?_ _ _ fun mark => ?_
    · exact hs.setResultQueue _ ((hs.1 id.owner).drawn hl)
    · rw [setAccount, setResultQueue_resultQueue_self]
      exact (hs.1 id.owner).placed_reserved hl (by simp)
  · simp only [e]
    exact hs.appendRecord _ _ fun mark => (hs.1 id.owner).placed_free hf (by simp)
  · simp only [e]
    exact hs.setResultQueue _ (hs.1 id.owner)

end QueuesFit

theorem queueKept_queuesFit : QueueKept QueuesFit where
  jobs _ _ _ hs := hs
  removal _ _ hs := hs
  ready _ _ _ hs := hs
  marker _ _ _ hs := hs
  rotation _ _ _ hs := hs
  converter _ _ hs := hs
  completion _ _ hs := hs
  post _ h kind subject detail hs := hs.post h kind subject detail
  closed _ h _ hs := hs.setResultQueue h (hs.1 h).closed
  reserved _ id _ _ _ hn hs := hs.setResultQueue _ ((hs.1 id.owner).reserved hn)
  toppedUp _ id _ _ _ _ hh hn hs := hs.setResultQueue _ ((hs.1 id.owner).toppedUp hh hn)
  offered _ id c r _ hs := hs.offer id c r

theorem eventKept_queuesFit : EventKept QueuesFit where
  toEngineKept := queueKept_queuesFit.engine (fun _ _ _ _ hs => hs) fun _ _ _ _ hs => hs
  port _ _ _ hs := hs
  renewed _ _ _ hs := hs
  opened _ h _ _ hs := hs.setResultQueue h (hs.1 h)
  stripped s h ended _ _ hs := by
    let v := s.settle [.watch, .job] fun id => id.owner == h
    exact (hs.setResultQueue h (.empty (v.resultQueue h).discarded)).setNoticeQueue h
      ⟨Nat.zero_le _, Nat.zero_le _⟩
  options _ h _ _ hs := hs.setResultQueue h (hs.1 h)
  appended _ _ _ _ _ _ hs := by split <;> exact hs
  removed _ _ j _ hs _ := queueKept_queuesFit.removeJob j hs
  channel _ _ _ _ hs := hs
  claimed _ _ _ _ hs := hs
  watch _ _ _ _ hs := hs
  headLeft _ h _ _ hq hs := hs.setResultQueue h ((hs.1 h).withoutHead hq _)
  noticeLeft s h hs := hs.setNoticeQueue h
    ⟨by rw [List.length_tail]; exact (Nat.sub_le _ _).trans (hs.2 h).1, (hs.2 h).2⟩
  discardedLowered _ h _ hs := hs.setResultQueue h (hs.1 h)
  staleReached s h hs := by
    unfold reachStale
    split
    · exact hs.setResultQueue h (hs.1 h)
    · exact hs
  edge _ _ hs := hs
  sampled _ _ _ _ _ hs := hs

end State

/-- Settles O7: no operation on a queue goes beyond its places. -/
theorem everyStepKeepsTheQueueCapacities : Obligations.EveryStepKeepsTheQueueCapacities := by
  intro s t hs h
  rw [← State.queuesFit_iff] at hs ⊢
  refine step_keeps (fun _ _ => State.eventKept_queuesFit.event) (fun _ hs => hs) (fun s hs => ?_)
    (fun s straps _ => ?_) (fun _ _ hs => hs) h hs
  · rw [s.handOn_rest]; exact hs
  · have hr (g) : ({ State.afterReset straps with pending := s.pending } : State).resultQueue g = {} :=
      Table.get_make ..
    have hn (g) : ({ State.afterReset straps with pending := s.pending } : State).noticeQueue g = {} :=
      Table.get_make ..
    exact ⟨fun g => hr g ▸ .empty 0, fun g => hn g ▸ ⟨Nat.zero_le _, Nat.zero_le _⟩⟩

end Sys2Proof.Machine

/-! PROOFS. The holdings (sections 3.6, 4.6, 5.2, 6.1, 7.5, 8.1): only ATTACHED hosts own jobs, channels,
generators and watches, and a host without a session holds nothing. -/

namespace Sys2Proof.Machine

theorem Generator.Edit.owner {attached : HostId → Prop} {x y : Generator} (e : x.Edit attached y)
    {h : HostId} (hy : h ∈ y.owner) : x.owner = some h ∨ attached h := by
  cases e with
  | claim g ha => cases hy; exact .inr ha
  | release => cases hy
  | program p _ => exact .inl hy
  | stop => exact .inl hy

namespace State

variable {s t : State}

/-- A host holds no record, no reserved place, no stale mark, no notice and no lease timer (R89, R138,
R140). -/
def HoldsNothing (s : State) (h : HostId) : Prop :=
  (s.resultQueue h).records = [] ∧ (s.resultQueue h).accounts = ⟨none, none, none⟩ ∧
  (s.resultQueue h).staleMark = false ∧ s.noticeQueue h = {} ∧ (s.session h).lease = none

/-- The laws of holdings over names, hosts and numbers. -/
structure Held (s : State) : Prop where
  job : ∀ id ∈ s.jobs.map Job.id, s.isAttached id.owner
  channel : ∀ c, ∀ h ∈ (s.channel c).owner, s.isAttached h
  generator : ∀ g, ∀ h ∈ (s.generator g).owner, s.isAttached h
  watch : ∀ w, ∀ h ∈ (s.watch w).owner, s.isAttached h
  departed : ∀ h, ¬ s.isAttached h → s.HoldsNothing h

theorem held_iff : s.Held ↔ s.holdingLaws := by
  constructor
  · rintro ⟨hj, hc, hg, hw, hd⟩
    exact ⟨⟨fun j hm => hj _ (List.mem_map_of_mem hm), hc, hg, hw⟩, fun h _ => hd h⟩
  · rintro ⟨⟨hj, hc, hg, hw⟩, hd⟩
    refine ⟨fun id hm => ?_, hc, hg, hw, fun h => hd h (mem_allHosts h)⟩
    obtain ⟨j, hjm, rfl⟩ := List.mem_map.mp hm
    exact hj j hjm

namespace Held

/-- A queue of an ATTACHED host may hold anything. -/
theorem setResultQueue (hs : s.Held) {h : HostId} (ha : s.isAttached h) (q : ResultQueue) :
    (s.setResultQueue h q).Held := by
  refine ⟨hs.job, hs.channel, hs.generator, hs.watch, fun g hg => ?_⟩
  have hne : g ≠ h := fun e => hg (e ▸ ha)
  unfold HoldsNothing
  rw [setResultQueue_resultQueue_ne _ _ _ hne]
  exact hs.departed g hg

/-- A change that a departed host's queue does not feel. -/
theorem setResultQueue_of (hs : s.Held) (h : HostId) {q : ResultQueue}
    (hq : (s.resultQueue h).records = [] → (s.resultQueue h).accounts = ⟨none, none, none⟩ →
      (s.resultQueue h).staleMark = false →
      q.records = [] ∧ q.accounts = ⟨none, none, none⟩ ∧ q.staleMark = false) :
    (s.setResultQueue h q).Held := by
  by_cases ha : s.isAttached h
  · exact hs.setResultQueue ha q
  · refine ⟨hs.job, hs.channel, hs.generator, hs.watch, fun g hg => ?_⟩
    obtain ⟨hr, hacc, hm, hn, hl⟩ := hs.departed g hg
    by_cases e : g = h
    · subst e
      obtain ⟨h1, h2, h3⟩ := hq hr hacc hm
      exact ⟨by simpa using h1, by simpa using h2, by simpa using h3, hn, hl⟩
    · unfold HoldsNothing
      rw [setResultQueue_resultQueue_ne _ _ _ e]
      exact hs.departed g hg

theorem post (hs : s.Held) (h : HostId) (kind : NoticeKind) (subject : Byte) (detail : Nat) :
    (s.post h kind subject detail).Held := by
  by_cases ha : s.isAttached h
  · rw [post_of_attached ha]
    refine ⟨hs.job, hs.channel, hs.generator, hs.watch, fun g hg => ?_⟩
    have hne : g ≠ h := fun e => hg (e ▸ ha)
    unfold HoldsNothing
    rw [setNoticeQueue_noticeQueue_ne _ _ _ hne]
    exact hs.departed g hg
  · rw [post_of_not_attached ha]; exact hs

theorem appendRecord (hs : s.Held) {h : HostId} (ha : s.isAttached h) (r : ResultRecord) :
    (s.appendRecord h r).Held := by
  unfold State.appendRecord
  dsimp only
  split
  · exact (hs.setResultQueue ha _).setResultQueue ha _
  · exact hs.setResultQueue ha _

theorem offer (hs : s.Held) {id : JobId} (ha : s.isAttached id.owner) (c : JobClass) (r : ResultRecord) :
    (s.offer id c r).Held := by
  have marks {u : State} {f : Job → Job} (hf : ∀ j, (f j).id = j.id) (hu : u.Held) :
      (u.updateJob id f).Held :=
    ⟨fun i hi => hu.job i (by rwa [(u.updateJob_engine id hf).ids] at hi), hu.channel, hu.generator,
      hu.watch, hu.departed⟩
  unfold State.offer
  dsimp only
  split
  · exact marks (by intro; rfl) ((hs.setResultQueue ha _).appendRecord ha _)
  · exact marks (by intro; rfl) (hs.appendRecord ha _)
  · exact marks (by intro; rfl) (hs.setResultQueue ha _)

/-- Other holdings and sessions alike, names can only leave. -/
theorem fewer (hs : s.Held) (hn : s.FewerNames t) (hc : t.channels = s.channels)
    (hg : t.generators = s.generators) (hw : t.watches = s.watches) (hq : t.results = s.results)
    (hno : t.notices = s.notices) (hse : t.sessions = s.sessions) : t.Held := by
  have session (h) : t.session h = s.session h := congrArg (·.get h) hse
  refine ⟨fun id hid => ?_, fun c h hh => ?_, fun g h hh => ?_, fun w h hh => ?_, fun h hh => ?_⟩
  · unfold isAttached; rw [session]; exact hs.job id (hn.subset hid)
  · unfold isAttached; rw [session]
    exact hs.channel c h (by rwa [show t.channel c = s.channel c from congrArg (·.get c) hc] at hh)
  · unfold isAttached; rw [session]
    exact hs.generator g h (by rwa [show t.generator g = s.generator g from congrArg (·.get g) hg] at hh)
  · unfold isAttached; rw [session]
    exact hs.watch w h (by rwa [show t.watch w = s.watch w from congrArg (·.get w) hw] at hh)
  · unfold isAttached at hh
    rw [session] at hh
    unfold HoldsNothing
    rw [session, show t.resultQueue h = s.resultQueue h from congrArg (·.get h) hq,
      show t.noticeQueue h = s.noticeQueue h from congrArg (·.get h) hno]
    exact hs.departed h hh

/-- A session that stays ATTACHED, or becomes so, takes nothing away. -/
theorem setSession (hs : s.Held) (h : HostId) {x : Session} (hx : x.state = .attached) :
    (s.setSession h x).Held := by
  have att {g} (hg : s.isAttached g) : (s.setSession h x).isAttached g := by
    unfold isAttached
    rw [setSession_session]
    split
    · exact hx
    · exact hg
  refine ⟨fun id hid => att (hs.job id hid), fun c g hg => att (hs.channel c g hg),
    fun i g hg => att (hs.generator i g hg), fun w g hg => att (hs.watch w g hg), fun g hg => ?_⟩
  have hne : g ≠ h := by
    rintro rfl
    exact hg (by unfold isAttached; rw [setSession_session_self]; exact hx)
  have hold := hs.departed g fun ha => hg (att ha)
  unfold HoldsNothing
  rw [setSession_session_ne _ _ _ hne]
  exact hold

theorem setChannel (hs : s.Held) (c : ChannelId) {x : Channel}
    (hx : ∀ h ∈ x.owner, s.isAttached h) : (s.setChannel c x).Held := by
  refine ⟨hs.job, fun d h hh => ?_, hs.generator, hs.watch, hs.departed⟩
  rw [setChannel_channel] at hh
  split at hh
  · exact hx h hh
  · exact hs.channel d h hh

theorem setWatch (hs : s.Held) (w : WatchId) {x : Watch} (hx : ∀ h ∈ x.owner, s.isAttached h) :
    (s.setWatch w x).Held := by
  refine ⟨hs.job, hs.channel, hs.generator, fun v h hh => ?_, hs.departed⟩
  rw [setWatch_watch] at hh
  split at hh
  · exact hx h hh
  · exact hs.watch v h hh

theorem setGenerator (hs : s.Held) (g : GeneratorId) {x : Generator}
    (hx : ∀ h ∈ x.owner, s.isAttached h) : (s.setGenerator g x).Held := by
  refine ⟨hs.job, hs.channel, fun i h hh => ?_, hs.watch, hs.departed⟩
  rw [setGenerator_generator] at hh
  split at hh
  · exact hx h hh
  · exact hs.generator i h hh

end Held

theorem queueKept_held : QueueKept Held where
  jobs s f hf hs := hs.fewer (by
    unfold FewerNames
    rw [setJobs_jobs, List.map_map, show Job.id ∘ f = Job.id from funext hf]) rfl rfl rfl rfl rfl rfl
  removal s p hs := hs.fewer ((List.filter_sublist ..).map _) rfl rfl rfl rfl rfl rfl
  ready _ _ _ hs := ⟨hs.job, hs.channel, hs.generator, hs.watch, hs.departed⟩
  marker _ _ _ hs := ⟨hs.job, hs.channel, hs.generator, hs.watch, hs.departed⟩
  rotation _ _ _ hs := ⟨hs.job, hs.channel, hs.generator, hs.watch, hs.departed⟩
  converter _ _ hs := ⟨hs.job, hs.channel, hs.generator, hs.watch, hs.departed⟩
  completion _ _ hs := ⟨hs.job, hs.channel, hs.generator, hs.watch, hs.departed⟩
  post _ h kind subject detail hs := hs.post h kind subject detail
  closed _ h c hs := hs.setResultQueue_of h fun hr ha hm => ⟨hr, by cases c <;> simp [ha, PerClass.put], hm⟩
  reserved _ id _ _ hid _ hs := hs.setResultQueue (hs.job id hid) _
  toppedUp _ id _ _ _ hid _ _ hs := hs.setResultQueue (hs.job id hid) _
  offered _ id c r hid hs := hs.offer (hs.job id hid) c r

/-- What a teardown leaves of the host: nothing (R27, R69, R89, R111, R125, R138, R151). -/
theorem Held.withoutHost (hs : s.Held) (h : HostId) (ended : SessionState) :
    (s.withoutHost h ended).Held := by
  have session (g) : (s.withoutHost h ended).session g =
      if g = h then ⟨ended, (s.session h).options, none⟩ else s.session g := Table.get_put ..
  have attached {g} (hg : g ≠ h) : (s.withoutHost h ended).isAttached g ↔ s.isAttached g := by
    unfold isAttached
    rw [session, if_neg hg]
  refine ⟨fun id hid => ?_, fun c g hg => ?_, fun i g hg => ?_, fun w g hg => ?_, fun g hg => ?_⟩
  · obtain ⟨j, hj, rfl⟩ := List.mem_map.mp hid
    obtain ⟨hj, hne⟩ := List.mem_filter.mp hj
    rw [attached (by simpa using hne)]
    exact hs.job _ (List.mem_map_of_mem hj)
  · rw [show (s.withoutHost h ended).channel c = _ from Table.get_map ..] at hg
    split at hg
    · cases hg
    · next hne =>
      rw [attached (by rintro rfl; exact hne hg)]
      exact hs.channel c g hg
  · rw [show (s.withoutHost h ended).generator i = _ from Table.get_map ..] at hg
    split at hg
    · cases hg
    · next hne =>
      rw [attached (by rintro rfl; exact hne hg)]
      exact hs.generator i g hg
  · rw [show (s.withoutHost h ended).watch w = _ from Table.get_map ..] at hg
    split at hg
    · cases hg
    · next hne =>
      rw [attached (by rintro rfl; exact hne hg)]
      exact hs.watch w g hg
  · have queue : (s.withoutHost h ended).resultQueue g =
        if g = h then { discarded := (s.resultQueue h).discarded } else s.resultQueue g := Table.get_put ..
    have notices : (s.withoutHost h ended).noticeQueue g = if g = h then {} else s.noticeQueue g :=
      Table.get_put ..
    unfold HoldsNothing
    rw [session, queue, notices]
    by_cases e : g = h
    · simp [e]
    · simp only [if_neg e]
      exact hs.departed g (by rwa [attached e] at hg)

theorem eventKept_held : EventKept Held where
  toEngineKept := queueKept_held.engine
    (fun s g _ hx hs => hs.setGenerator g fun h hh => hs.generator g h (hx ▸ hh))
    fun s w _ _ hs => hs.setWatch w fun h hh => hs.watch w h hh
  port _ _ _ hs := ⟨hs.job, hs.channel, hs.generator, hs.watch, hs.departed⟩
  renewed _ h ha hs := hs.setSession h ha
  opened s h o ha hs := by
    exact (hs.setSession h (x := ⟨.attached, o, o.leaseTicks⟩) rfl).setResultQueue
      (by unfold isAttached; rw [setSession_session_self]) _
  stripped _ h ended _ _ hs := hs.withoutHost h ended
  options s h o ha hs := by
    have hset := hs.setSession h (x := ⟨(s.session h).state, o, leaseOf o.leaseLength⟩) ha
    exact hset.setResultQueue (by unfold isAttached; rw [setSession_session_self]; exact ha) _
  appended s h j ha hj _ hs := by
    have names (id) (hid : id ∈ (s.jobs ++ [j]).map Job.id) : s.isAttached id.owner := by
      rw [List.map_append, List.mem_append, List.map_singleton, List.mem_singleton] at hid
      rcases hid with hid | rfl
      · exact hs.job id hid
      · rw [hj.owner]; exact ha
    split <;> exact ⟨names, hs.channel, hs.generator, hs.watch, hs.departed⟩
  removed _ _ j _ hs _ := queueKept_held.removeJob j hs
  channel _ c _ hx hs := hs.setChannel c fun h hh => (hx.owner h hh).elim (hs.channel c h) id
  claimed _ g _ hx hs := hs.setGenerator g fun h hh => (hx.owner hh).elim (hs.generator g h) id
  watch _ w _ hx hs := hs.setWatch w hx.owner
  headLeft s h r rest hq hs := hs.setResultQueue_of h fun hr => by rw [hr] at hq; cases hq
  noticeLeft s h hs := by
    refine ⟨hs.job, hs.channel, hs.generator, hs.watch, fun g hg => ?_⟩
    obtain ⟨hr, ha, hm, hn, hl⟩ := hs.departed g hg
    refine ⟨hr, ha, hm, ?_, hl⟩
    unfold noticeLeaves
    rw [setNoticeQueue_noticeQueue]
    split
    · next e => subst e; rw [hn]; rfl
    · exact hn
  discardedLowered _ h _ hs := hs.setResultQueue_of h fun hr ha hm => ⟨hr, ha, hm⟩
  staleReached s h hs := by
    unfold reachStale
    split
    · next hd =>
      refine hs.setResultQueue_of h fun hr => ?_
      rw [hr] at hd
      cases hd
    · exact hs
  edge _ _ hs := ⟨hs.job, hs.channel, hs.generator, hs.watch, hs.departed⟩
  sampled _ _ _ _ _ hs := ⟨hs.job, hs.channel, hs.generator, hs.watch, hs.departed⟩

theorem Held.tick (hs : s.Held) : s.tick.Held := by
  have session (h) : s.tick.session h = (s.session h).tick := Table.get_map ..
  have generator (g) : s.tick.generator g = (s.generator g).tick := Table.get_map ..
  have attached (h) : s.tick.isAttached h ↔ s.isAttached h := by
    unfold isAttached
    rw [session]
    rfl
  refine ⟨fun id hid => (attached _).mpr (hs.job id hid), fun c h hh => (attached _).mpr (hs.channel c h hh),
    fun g h hh => (attached _).mpr (hs.generator g h (by rwa [generator] at hh)),
    fun w h hh => (attached _).mpr (hs.watch w h hh), fun h hh => ?_⟩
  obtain ⟨hr, ha, hm, hn, hl⟩ := hs.departed h (by rwa [attached] at hh)
  refine ⟨hr, ha, hm, hn, ?_⟩
  rw [session, Session.tick, hl]
  rfl

theorem afterReset_held (straps : Straps) : (State.afterReset straps).Held := by
  have c (i) : (State.afterReset straps).channel i = {} := Table.get_make ..
  have g (i) : (State.afterReset straps).generator i = {} := Table.get_make ..
  have w (i) : (State.afterReset straps).watch i = {} := Table.get_make ..
  have q (i) : (State.afterReset straps).resultQueue i = {} := Table.get_make ..
  have n (i) : (State.afterReset straps).noticeQueue i = {} := Table.get_make ..
  have x (i) : (State.afterReset straps).session i = {} := Table.get_make ..
  refine ⟨fun id hid => (by cases hid), fun i h hh => ?_, fun i h hh => ?_, fun i h hh => ?_, fun h _ => ?_⟩
  · rw [c] at hh; cases hh
  · rw [g] at hh; cases hh
  · rw [w] at hh; cases hh
  · unfold HoldsNothing
    rw [q, n, x]
    exact ⟨rfl, rfl, rfl, rfl, rfl⟩

theorem Held.handOn (hs : s.Held) : s.handOn.Held := by
  rcases s.handOn_cases with e | ⟨ctx, ts, held, -, -, -, e⟩
  · rw [e]; exact hs
  · rw [e]
    unfold channelShare
    split
    · exact (queueKept_held.converter s none hs).setChannel _ (fun h hh => hs.channel _ h hh) |>
        queueKept_held.completion _ _
    · exact queueKept_held.completion _ _ (queueKept_held.converter s none hs)

end State

/-- Settles O8: every holding is given to an ATTACHED host, and a teardown takes all of them. -/
theorem everyStepKeepsTheHoldings : Obligations.EveryStepKeepsTheHoldings := by
  intro s t hs h
  rw [← State.held_iff] at hs ⊢
  exact step_keeps (fun _ _ => State.eventKept_held.event) (fun _ => State.Held.tick)
    (fun _ => State.Held.handOn) (fun s straps _ =>
      ⟨(State.afterReset_held straps).job, (State.afterReset_held straps).channel,
        (State.afterReset_held straps).generator, (State.afterReset_held straps).watch,
        (State.afterReset_held straps).departed⟩)
    (fun _ _ hs => ⟨hs.job, hs.channel, hs.generator, hs.watch, hs.departed⟩) h hs

end Sys2Proof.Machine

/-! PROOFS. The laws of the Job Table, the Ready Lists, the markers, the converter and the accounts
(chapters 1 to 4) read at one name: where a job's name must stand follows from its record alone. An
operation on one job is then a turn of that job, and keeps the laws once it keeps them at its name. -/

namespace Sys2Proof.Machine

/-- The entries, the cursor and the counts of one job record (section 1.2, R7, R9, R11). -/
structure Job.Sound (j : Job) : Prop where
  listed : 1 ≤ j.entries.length ∧ j.entries.length ≤ 16
  cursor : j.cursor < j.entries.length
  passes : j.passesDone ≤ 65535
  overruns : j.overruns ≤ 65535
  produced : j.produced ≤ j.cursor
  discarded : j.discarded ≤ 16
  limit : j.passLimit ≠ 0 → j.passesDone < j.passLimit
  pending : j.pendingTrigger → j.policy = .hold

/-- The law of an open completion; between its shares the selection may be left alone (R57). -/
structure Completion.Open (c : Completion) (converter : Option Context) : Prop where
  nonempty : c.left ≠ []
  order : c.left.Sublist allShares
  selects : .job ∈ c.left → .select ∈ c.left
  idle : .job ∈ c.left → converter = none
  sampling : ∀ ctx ∈ converter, ctx.phase = .sampling

namespace State

variable {s t : State} {strict : Prop}

/-- What the report stands for whose share the Job Table has still to take: the job and the entry. -/
def reporting (s : State) : Option (JobId × Nat) :=
  s.completion.bind fun c => if .job ∈ c.left then some (c.report.job, c.report.index) else none

/-- The job and the entry that the part is at work for: those of the conversion in flight, or those of
the report (R36). -/
def engaged (s : State) : Option (JobId × Nat) :=
  (s.converter.map fun ctx => (ctx.job, ctx.index)).or s.reporting

/-- The Ready Lists, the markers and the converter hold a name as the job of that name demands, or not
at all where there is none. -/
structure At (s : State) (id : JobId) (o : Option Job) : Prop where
  record : ∀ j ∈ o, j.id.tag ≠ 0 ∧ j.Sound
  ready : ∀ c, id ∈ s.ready.get c ↔ ∃ j ∈ o, j.cls = c ∧ j.state = .ready
  marker : ∀ c, s.marker.get c = some id ↔ ∃ j ∈ o, j.cls = c ∧ j.inPass
  engaged : ∀ n, s.engaged = some (id, n) ↔ ∃ j ∈ o, j.state = .running ∧ j.cursor = n

/-- The laws of the scheduler at every name, with what lies between two shares of one completion; and,
where it is asked for, that a SUSPENDED job is of a lower class than the RUNNING one (R47). -/
structure Orderly (strict : Prop) (s : State) : Prop where
  names : (s.jobs.map Job.id).Nodup
  once : ∀ c, (s.ready.get c).Nodup
  at_name : ∀ id, s.At id (s.findJob id)
  account : ∀ h c n, s.account h c = some n → ∃ id j, s.findJob id = some j ∧
    s.marker.get c = some id ∧ id.owner = h ∧ n + j.produced = j.entries.length
  whole : ∀ c ∈ s.completion, c.Open s.converter
  rank : strict → ∀ a b j k, s.findJob a = some j → s.findJob b = some k → j.state = .running →
    k.state = .suspended → j.cls.rank < k.cls.rank

/-- `t` differs from `s`, in the table and the scheduler, at the name `id` alone. -/
structure Turns (s t : State) (id : JobId) : Prop where
  names : (s.jobs.map Job.id).Nodup → (t.jobs.map Job.id).Nodup
  found : ∀ x, x ≠ id → t.findJob x = s.findJob x
  once : ∀ c, (s.ready.get c).Nodup → (t.ready.get c).Nodup
  ready : ∀ c x, x ≠ id → (x ∈ t.ready.get c ↔ x ∈ s.ready.get c)
  marker : ∀ c x, x ≠ id → (t.marker.get c = some x ↔ s.marker.get c = some x)
  engaged : ∀ x n, x ≠ id → (t.engaged = some (x, n) ↔ s.engaged = some (x, n))

namespace Orderly

theorem sound (hs : s.Orderly strict) {id : JobId} {j : Job} (hj : s.findJob id = some j) : j.Sound :=
  ((hs.at_name id).record j hj).2

theorem tag (hs : s.Orderly strict) {id : JobId} {j : Job} (hj : s.findJob id = some j) :
    j.id.tag ≠ 0 :=
  ((hs.at_name id).record j hj).1

theorem ready_iff (hs : s.Orderly strict) {id : JobId} {j : Job} (hj : s.findJob id = some j)
    {c : JobClass} : id ∈ s.ready.get c ↔ j.cls = c ∧ j.state = .ready := by
  simp [(hs.at_name id).ready c, hj]

theorem marker_iff (hs : s.Orderly strict) {id : JobId} {j : Job} (hj : s.findJob id = some j)
    {c : JobClass} : s.marker.get c = some id ↔ j.cls = c ∧ j.inPass := by
  simp [(hs.at_name id).marker c, hj]

theorem engaged_iff (hs : s.Orderly strict) {id : JobId} {j : Job} (hj : s.findJob id = some j)
    {n : Nat} : s.engaged = some (id, n) ↔ j.state = .running ∧ j.cursor = n := by
  simp [(hs.at_name id).engaged n, hj]

/-- A name in a Ready List is that of a READY job of the class. -/
theorem found_of_ready (hs : s.Orderly strict) {id : JobId} {c : JobClass} (h : id ∈ s.ready.get c) :
    ∃ j, s.findJob id = some j ∧ j.cls = c ∧ j.state = .ready := by
  simpa [Option.mem_def] using ((hs.at_name id).ready c).mp h

theorem found_of_marker (hs : s.Orderly strict) {id : JobId} {c : JobClass}
    (h : s.marker.get c = some id) : ∃ j, s.findJob id = some j ∧ j.cls = c ∧ j.inPass := by
  simpa [Option.mem_def] using ((hs.at_name id).marker c).mp h

theorem found_of_engaged (hs : s.Orderly strict) {id : JobId} {n : Nat}
    (h : s.engaged = some (id, n)) :
    ∃ j, s.findJob id = some j ∧ j.state = .running ∧ j.cursor = n := by
  simpa [Option.mem_def] using ((hs.at_name id).engaged n).mp h

/-- The one RUNNING job: no other is, while one is (R36). -/
theorem running_unique (hs : s.Orderly strict) {a b : JobId} {j k : Job} (hj : s.findJob a = some j)
    (hk : s.findJob b = some k) (rj : j.state = .running) (rk : k.state = .running) : a = b := by
  have ha := (hs.engaged_iff hj).mpr ⟨rj, rfl⟩
  have hb := (hs.engaged_iff hk).mpr ⟨rk, rfl⟩
  rw [ha] at hb
  exact congrArg Prod.fst (Option.some.inj hb)

/-- An account belongs to the pass that the marker of its class names (R73). -/
theorem account_found (hs : s.Orderly strict) {h : HostId} {c : JobClass} {n : Nat}
    (ha : s.account h c = some n) : ∃ id j, s.findJob id = some j ∧ s.marker.get c = some id ∧
      id.owner = h ∧ j.cls = c ∧ j.inPass ∧ n + j.produced = j.entries.length := by
  obtain ⟨id, j, hj, hm, ho, hn⟩ := hs.account h c n ha
  obtain ⟨hc, hp⟩ := (hs.marker_iff hj).mp hm
  exact ⟨id, j, hj, hm, ho, hc, hp, hn⟩

/-- The laws do not look beyond the table, the lists, the markers, the converter, the completion and the
accounts. -/
theorem congr (hs : s.Orderly strict) (jobs : t.jobs = s.jobs) (ready : t.ready = s.ready)
    (marker : t.marker = s.marker) (converter : t.converter = s.converter)
    (completion : t.completion = s.completion) (account : ∀ h c, t.account h c = s.account h c) :
    t.Orderly strict := by
  have found : t.findJob = s.findJob := funext fun id => by unfold findJob; rw [jobs]
  have engaged : t.engaged = s.engaged := by
    unfold State.engaged reporting; rw [converter, completion]
  refine ⟨jobs ▸ hs.names, ready ▸ hs.once, fun id => ?_, fun h c n ha => ?_, ?_, ?_⟩
  · obtain ⟨h1, h2, h3, h4⟩ := hs.at_name id
    rw [found]
    exact ⟨h1, ready ▸ h2, marker ▸ h3, engaged ▸ h4⟩
  · rw [account] at ha
    rw [found, marker]
    exact hs.account h c n ha
  · rw [completion, converter]; exact hs.whole
  · rw [found]; exact hs.rank

/-- An operation at one name keeps the laws once it keeps them at that name. -/
theorem turn (hs : s.Orderly strict) {id : JobId} (ht : s.Turns t id) (at_id : t.At id (t.findJob id))
    (account : ∀ h c n, t.account h c = some n →
      s.account h c = some n ∧ s.marker.get c ≠ some id ∨
      t.marker.get c = some id ∧ id.owner = h ∧
        ∃ j, t.findJob id = some j ∧ n + j.produced = j.entries.length)
    (whole : ∀ c ∈ t.completion, c.Open t.converter)
    (rank : strict → ∀ j, t.findJob id = some j → ∀ b k, b ≠ id → s.findJob b = some k →
      (j.state = .running → k.state = .suspended → j.cls.rank < k.cls.rank) ∧
      (j.state = .suspended → k.state = .running → k.cls.rank < j.cls.rank)) :
    t.Orderly strict := by
  refine ⟨ht.names hs.names, fun c => ht.once c (hs.once c), fun x => ?_, fun h c n ha => ?_, whole,
    fun st a b j k hj hk rj rk => ?_⟩
  · by_cases hx : x = id
    · subst hx; exact at_id
    · have hold := hs.at_name x
      rw [ht.found x hx]
      exact ⟨hold.record, fun c => (ht.ready c x hx).trans (hold.ready c),
        fun c => (ht.marker c x hx).trans (hold.marker c),
        fun n => (ht.engaged x n hx).trans (hold.engaged n)⟩
  · rcases account h c n ha with ⟨hold, hm⟩ | ⟨hm, ho, j, hj, hn⟩
    · obtain ⟨x, j, hj, hx, ho, hn⟩ := hs.account h c n hold
      have hne : x ≠ id := fun e => hm (e ▸ hx)
      exact ⟨x, j, (ht.found x hne).trans hj, (ht.marker c x hne).mpr hx, ho, hn⟩
    · exact ⟨id, j, hj, hm, ho, hn⟩
  · by_cases ha : a = id
    · subst ha
      by_cases hb : b = a
      · subst hb
        rw [hj] at hk
        cases hk
        rw [rj] at rk
        cases rk
      · exact (rank st j hj b k hb (ht.found b hb ▸ hk)).1 rj rk
    · by_cases hb : b = id
      · subst hb
        exact (rank st k hk a j ha (ht.found a ha ▸ hj)).2 rk rj
      · exact hs.rank st a b j k (ht.found a ha ▸ hj) (ht.found b hb ▸ hk) rj rk

end Orderly

/-! ### The laws as the obligations state them -/

theorem mem_allClasses (c : JobClass) : c ∈ allClasses := by cases c <;> decide

theorem reporting_eq_some {id : JobId} {n : Nat} :
    s.reporting = some (id, n) ↔
      ∃ c ∈ s.completion, .job ∈ c.left ∧ c.report.job = id ∧ c.report.index = n := by
  unfold reporting
  cases s.completion with
  | none => simp
  | some c => by_cases h : .job ∈ c.left <;> simp [h]

theorem engaged_of_converter {ctx : Context} (h : s.converter = some ctx) :
    s.engaged = some (ctx.job, ctx.index) := by
  simp [engaged, h]

theorem engaged_of_idle (h : s.converter = none) : s.engaged = s.reporting := by
  simp [engaged, h]

/-- The laws of the obligations are these, and that no selection is left without the Job Table's share. -/
theorem schedulerLaws_iff (s : State) :
    s.schedulerLaws ↔ s.Orderly False ∧ ∀ c ∈ s.completion, .select ∈ c.left → .job ∈ c.left := by
  constructor
  · rintro ⟨⟨names, tags⟩, jobs, ⟨once, ready⟩, ⟨marker, pass⟩, ⟨conv, running⟩, compl, acct⟩
    have found {j : Job} (hj : j ∈ s.jobs) := s.findJob_of_mem names hj
    refine ⟨⟨names, fun c => ?_, fun id => ⟨fun j hj => ?_, fun c => ?_, fun c => ?_, fun n => ?_⟩,
      fun h c n ha => ?_, fun c hc => ?_, fun hf => hf.elim⟩, fun c hc => (compl c hc).2.2.1.mpr⟩
    · exact (once c (mem_allClasses c)).1
    · have hm := s.findJob_mem hj
      obtain ⟨h1, h2, h3, h4, h5, h6, h7, h8, h9⟩ := jobs j hm
      exact ⟨tags j hm, ⟨h1, h2⟩, h3, h4, h5, h6, h7, h8, h9⟩
    · constructor
      · intro h
        obtain ⟨j, hj, rfl, hc, hr⟩ := (once c (mem_allClasses c)).2 id h
        exact ⟨j, found hj, hc, hr⟩
      · rintro ⟨j, hj, rfl, hr⟩
        have := ready j (s.findJob_mem hj) hr
        rwa [s.findJob_id hj] at this
    · constructor
      · intro h
        obtain ⟨j, hj, rfl, hc, hr⟩ := marker c (mem_allClasses c) id h
        exact ⟨j, found hj, hc, hr⟩
      · rintro ⟨j, hj, rfl, hr⟩
        have := pass j (s.findJob_mem hj) hr
        rwa [s.findJob_id hj] at this
    · constructor
      · intro h
        cases hx : s.converter with
        | some ctx =>
          rw [engaged_of_converter hx, Option.some.injEq, Prod.mk.injEq] at h
          obtain ⟨j, hj, hid, hr, hn⟩ := conv ctx hx
          exact ⟨j, by rw [← h.1, ← hid]; exact found hj, hr, hn.trans h.2⟩
        | none =>
          rw [engaged_of_idle hx] at h
          obtain ⟨c, hc, hl, rfl, rfl⟩ := reporting_eq_some.mp h
          obtain ⟨-, j, hj, hid, hr, hn⟩ := (compl c hc).2.2.2.1 hl
          exact ⟨j, hid ▸ found hj, hr, hn⟩
      · rintro ⟨j, hj, hr, rfl⟩
        have hid := s.findJob_id hj
        rcases running j (s.findJob_mem hj) hr with he | ⟨c, hc, hid', hl⟩
        · cases hx : s.converter with
          | none => simp [executes, hx] at he
          | some ctx =>
            obtain ⟨k, hk, hkid, -, hn⟩ := conv ctx hx
            have hctx : ctx.job = j.id := by simpa [executes, hx] using he
            have : s.findJob id = some k := by rw [← hid, ← hctx, ← hkid]; exact found hk
            cases hj.symm.trans this
            rw [engaged_of_converter hx, hctx, hid, hn]
        · obtain ⟨hi, k, hk, hkid, -, hn⟩ := (compl c hc).2.2.2.1 hl
          have : s.findJob id = some k := by rw [← hid, ← hid', ← hkid]; exact found hk
          cases hj.symm.trans this
          rw [engaged_of_idle hi]
          exact reporting_eq_some.mpr ⟨c, hc, hl, hid'.trans hid, hn.symm⟩
    · obtain ⟨j, hj, ho, hc, hp, hn⟩ := acct h (mem_allHosts h) c (mem_allClasses c) n ha
      exact ⟨j.id, j, found hj, hc ▸ pass j hj hp, ho, hn⟩
    · obtain ⟨h1, h2, h3, h4, h5⟩ := compl c hc
      exact ⟨h1, h2, h3.mp, fun hl => (h4 hl).1, h5⟩
  · rintro ⟨hs, hb⟩
    have found {j : Job} (hj : j ∈ s.jobs) := s.findJob_of_mem hs.names hj
    have named {P : Job → Prop} {id : JobId} :
        (∃ j, s.findJob id = some j ∧ P j) → ∃ j ∈ s.jobs, j.id = id ∧ P j := by
      rintro ⟨j, hj, hp⟩
      exact ⟨j, s.findJob_mem hj, s.findJob_id hj, hp⟩
    refine ⟨⟨hs.names, fun j hj => hs.tag (found hj)⟩, fun j hj => ?_,
      ⟨fun c _ => ⟨hs.once c, fun id h => named (hs.found_of_ready h)⟩,
        fun j hj hr => (hs.ready_iff (found hj)).mpr ⟨rfl, hr⟩⟩,
      ⟨fun c _ id h => named (hs.found_of_marker h),
        fun j hj hp => (hs.marker_iff (found hj)).mpr ⟨rfl, hp⟩⟩,
      ⟨fun ctx hx => named (hs.found_of_engaged (engaged_of_converter hx)), fun j hj hr => ?_⟩,
      fun c hc => ?_, fun h _ c _ n ha => ?_⟩
    · obtain ⟨⟨h1, h2⟩, h3, h4, h5, h6, h7, h8, h9⟩ := hs.sound (found hj)
      exact ⟨h1, h2, h3, h4, h5, h6, h7, h8, h9⟩
    · have he := (hs.engaged_iff (found hj)).mpr ⟨hr, rfl⟩
      cases hx : s.converter with
      | some ctx =>
        rw [engaged_of_converter hx, Option.some.injEq, Prod.mk.injEq] at he
        exact .inl (by simp [executes, hx, he.1])
      | none =>
        rw [engaged_of_idle hx] at he
        obtain ⟨c, hc, hl, hid, -⟩ := reporting_eq_some.mp he
        exact .inr ⟨c, hc, hid, hl⟩
    · obtain ⟨h1, h2, h3, h4, h5⟩ := hs.whole c hc
      refine ⟨h1, h2, ⟨h3, hb c hc⟩, fun hl => ⟨h4 hl, named ?_⟩, h5⟩
      refine hs.found_of_engaged (n := c.report.index) ?_
      rw [engaged_of_idle (h4 hl)]
      exact reporting_eq_some.mpr ⟨c, hc, hl, rfl, rfl⟩
    · obtain ⟨id, j, hj, -, ho, hc, hp, hn⟩ := hs.account_found ha
      exact ⟨j, s.findJob_mem hj, s.findJob_id hj ▸ ho, hc, hp, hn⟩

end State
end Sys2Proof.Machine

/-! PROOFS. The operations of the engine keep the laws of the scheduler: arrivals, selections and
preemptions, each as a turn of the one job it works on (sections 1.4, 2.4, 2.7, 3.5, 5.4). -/

namespace Sys2Proof.Machine

/-- The converter may empty, and fill again where no report waits (R35, R57). -/
theorem Completion.Open.change {c : Completion} {x y : Option Context} (h : c.Open x)
    (idle : .job ∈ c.left → y = none) (sampling : ∀ ctx ∈ y, ctx.phase = .sampling) : c.Open y :=
  ⟨h.nonempty, h.order, h.selects, idle, sampling⟩

theorem Completion.Open.emptied {c : Completion} {x : Option Context} (h : c.Open x) : c.Open none :=
  h.change (fun _ => rfl) (by simp)

namespace Job

variable {j : Job}

theorem inPass_iff : j.inPass = true ↔ j.state = .running ∨ j.state = .suspended := by simp [inPass]

theorem inPass_of_running (h : j.state = .running) : j.inPass = true := inPass_iff.mpr (.inl h)

theorem inPass_of_suspended (h : j.state = .suspended) : j.inPass = true := inPass_iff.mpr (.inr h)

/-- What is neither ARMED nor READY is in a pass (section 1.4). -/
theorem inPass_of_not (ha : j.state ≠ .armed) (hr : j.state ≠ .ready) : j.inPass = true := by
  rw [inPass_iff]
  cases h : j.state <;> simp_all

end Job

namespace State

variable {s t : State} {strict : Prop} {id : JobId} {j : Job}

theorem findJob_congr (h : t.jobs = s.jobs) (x : JobId) : t.findJob x = s.findJob x := by
  unfold findJob; rw [h]

theorem engaged_congr (hx : t.converter = s.converter) (hc : t.completion = s.completion) :
    t.engaged = s.engaged := by
  unfold engaged reporting; rw [hx, hc]

theorem reporting_congr (hc : t.completion = s.completion) : t.reporting = s.reporting := by
  unfold reporting; rw [hc]

theorem selectionWaits_iff : s.selectionWaits = true ↔ ∃ c ∈ s.completion, .job ∈ c.left := by
  unfold selectionWaits
  cases s.completion <;> simp

theorem reporting_of_not_waiting (h : s.selectionWaits = false) : s.reporting = none := by
  unfold selectionWaits at h
  unfold reporting
  cases hc : s.completion <;> simp_all

/-- Once the converter is at work no report waits for the Job Table's share (R35). -/
theorem Orderly.not_waiting_of_busy (hs : s.Orderly strict) {ctx : Context} (hx : s.converter = some ctx) :
    s.selectionWaits = false := by
  rw [← Bool.not_eq_true, selectionWaits_iff]
  rintro ⟨c, hc, hl⟩
  simp [(hs.whole c hc).idle hl] at hx

/-! ### One record updated -/

/-- A turn whose job is updated, and whatever else it does to the lists. -/
theorem turns_of_update {f : Job → Job} (hf : ∀ k, (f k).id = k.id)
    (jobs : t.jobs = (s.updateJob id f).jobs)
    (once : ∀ c, (s.ready.get c).Nodup → (t.ready.get c).Nodup)
    (ready : ∀ c x, x ≠ id → (x ∈ t.ready.get c ↔ x ∈ s.ready.get c))
    (marker : ∀ c x, x ≠ id → (t.marker.get c = some x ↔ s.marker.get c = some x))
    (engaged : ∀ x n, x ≠ id → (t.engaged = some (x, n) ↔ s.engaged = some (x, n))) : s.Turns t id where
  names h := by rw [jobs, (s.updateJob_engine id hf).ids]; exact h
  found x hx := (findJob_congr jobs x).trans (s.findJob_updateJob_ne hf hx)
  once := once
  ready := ready
  marker := marker
  engaged := engaged

theorem findJob_update {f : Job → Job} (hf : ∀ k, (f k).id = k.id)
    (jobs : t.jobs = (s.updateJob id f).jobs) (hj : s.findJob id = some j) : t.findJob id = some (f j) := by
  rw [findJob_congr jobs, s.findJob_updateJob_self hf, hj]
  rfl

/-- What stands at a name with a job of a given record. -/
theorem At.of_some {k : Job} (tag : k.id.tag ≠ 0) (sound : k.Sound)
    (ready : ∀ c, id ∈ s.ready.get c ↔ k.cls = c ∧ k.state = .ready)
    (marker : ∀ c, s.marker.get c = some id ↔ k.cls = c ∧ k.inPass)
    (engaged : ∀ n, s.engaged = some (id, n) ↔ k.state = .running ∧ k.cursor = n) :
    s.At id (some k) :=
  ⟨by rintro j ⟨⟩; exact ⟨tag, sound⟩, by simpa using ready, by simpa using marker, by simpa using engaged⟩

/-- An update of a job's marks: nothing moves (R11, R107, R108). -/
theorem Orderly.mark (hs : s.Orderly strict) {f : Job → Job} (hf : ∀ k, (f k).id = k.id)
    (cls : ∀ k, (f k).cls = k.cls) (state : ∀ k, (f k).state = k.state)
    (cursor : ∀ k, (f k).cursor = k.cursor) (produced : ∀ k, (f k).produced = k.produced)
    (entries : ∀ k, (f k).entries = k.entries)
    (sound : ∀ k, s.findJob id = some k → k.Sound → (f k).Sound) : (s.updateJob id f).Orderly strict := by
  have pass (k : Job) : (f k).inPass = k.inPass := by simp [Job.inPass, state]
  cases hj : s.findJob id with
  | none =>
    refine hs.turn (id := id) (turns_of_update hf rfl (fun _ h => h) (fun _ _ _ => .rfl) (fun _ _ _ => .rfl)
      fun _ _ _ => .rfl) ?_ (fun h c n ha => .inl ⟨ha, fun hm => ?_⟩) hs.whole fun _ k hk => ?_
    · rw [s.findJob_updateJob_self hf, hj]
      have := hs.at_name id
      rw [hj] at this
      exact ⟨this.record, this.ready, this.marker, this.engaged⟩
    · obtain ⟨k, hk, -⟩ := hs.found_of_marker hm
      rw [hj] at hk
      cases hk
    · rw [s.findJob_updateJob_self hf, hj] at hk
      cases hk
  | some j =>
    have hfound : (s.updateJob id f).findJob id = some (f j) := findJob_update hf rfl hj
    refine hs.turn (id := id) (turns_of_update hf rfl (fun _ h => h) (fun _ _ _ => .rfl) (fun _ _ _ => .rfl)
      fun _ _ _ => .rfl) ?_ (fun h c n ha => ?_) hs.whole fun st k hk b kb hb hkb => ?_
    · rw [hfound]
      refine .of_some (by rw [hf]; exact hs.tag hj) (sound j hj (hs.sound hj)) (fun c => ?_) (fun c => ?_) fun n => ?_
      · rw [cls, state]; exact hs.ready_iff hj
      · rw [cls, pass]; exact hs.marker_iff hj
      · rw [state, cursor]; exact hs.engaged_iff hj
    · by_cases hm : s.marker.get c = some id
      · obtain ⟨x, k, hk, hx, ho, hn⟩ := hs.account h c n ha
        cases hm.symm.trans hx
        cases hj.symm.trans hk
        exact .inr ⟨hm, ho, f j, hfound, by rw [produced, entries]; exact hn⟩
      · exact .inl ⟨ha, hm⟩
    · rw [hfound] at hk
      cases hk
      rw [state, cls]
      exact ⟨hs.rank st id b j kb hj hkb, fun h1 h2 => hs.rank st b id kb j hkb hj h2 h1⟩

theorem Orderly.post (hs : s.Orderly strict) (h : HostId) (kind : NoticeKind) (subject : Byte)
    (detail : Nat) : (s.post h kind subject detail).Orderly strict := by
  unfold State.post
  split
  · exact hs.congr rfl rfl rfl rfl rfl fun _ _ => rfl
  · exact hs

/-! ### Arrivals (R106 to R110) -/

theorem Orderly.overrun (hs : s.Orderly strict) (j : Job) : (s.overrun j).Orderly strict := by
  have marked {u : State} (hu : u.Orderly strict) : (u.updateJob j.id fun k =>
      { k with overruns := min 65535 (j.overruns + 1), overrunReported := true }).Orderly strict :=
    hu.mark (by intro; rfl) (by intro; rfl) (by intro; rfl) (by intro; rfl) (by intro; rfl)
      (by intro; rfl) fun k _ ⟨h1, h2, h3, _, h5, h6, h7, h8⟩ => ⟨h1, h2, h3, Nat.min_le_left .., h5, h6, h7, h8⟩
  unfold State.overrun
  dsimp only
  split
  · exact marked hs
  · exact marked (hs.post ..)

theorem Orderly.holdArrival (hs : s.Orderly strict) (hj : s.findJob j.id = some j) (hp : j.policy = .hold) :
    (s.holdArrival j).Orderly strict := by
  unfold State.holdArrival
  split
  · exact hs.overrun j
  · refine hs.mark (by intro; rfl) (by intro; rfl) (by intro; rfl) (by intro; rfl) (by intro; rfl)
      (by intro; rfl) fun k hk ⟨h1, h2, h3, h4, h5, h6, h7, _⟩ => ⟨h1, h2, h3, h4, h5, h6, h7, fun _ => ?_⟩
    cases hj.symm.trans hk
    exact hp

theorem mem_put_append {ready : PerClass (List JobId)} {c d : JobClass} {x : JobId} :
    x ∈ (ready.put c (ready.get c ++ [id])).get d ↔ x ∈ ready.get d ∨ d = c ∧ x = id := by
  rw [PerClass.get_put]
  split
  · next h => subst h; simp
  · next h => simp [h]

theorem nodup_put_append {ready : PerClass (List JobId)} {c : JobClass} (hid : id ∉ ready.get c)
    (d : JobClass) (h : (ready.get d).Nodup) : ((ready.put c (ready.get c ++ [id])).get d).Nodup := by
  rw [PerClass.get_put]
  split
  · next e =>
    subst e
    rw [List.nodup_append]
    exact ⟨h, List.nodup_singleton id, fun a ha b hb e => hid (by rw [← List.mem_singleton.mp hb, ← e]; exact ha)⟩
  · exact h

/-- An ARMED job becomes READY (R106). -/
theorem Orderly.makeReady (hs : s.Orderly strict) (hj : s.findJob id = some j) (ha : j.state = .armed) :
    (s.makeReady id j.cls).Orderly strict := by
  have hid (c) : id ∉ s.ready.get c := fun h => by simpa [ha] using ((hs.ready_iff hj).mp h).2
  have hm (c) : s.marker.get c ≠ some id := fun h => by simpa [Job.inPass, ha] using ((hs.marker_iff hj).mp h).2
  have he (n) : s.engaged ≠ some (id, n) := fun h => by simpa [ha] using ((hs.engaged_iff hj).mp h).1
  have hfound : (s.makeReady id j.cls).findJob id = some { j with state := .ready } :=
    findJob_update (s := s) (f := fun j => { j with state := .ready }) (by intro; rfl) rfl hj
  refine hs.turn (id := id) (turns_of_update (f := fun j => { j with state := .ready }) (by intro; rfl) rfl
    (fun c => nodup_put_append (hid j.cls) c) (fun c x hx => ?_) (fun _ _ _ => .rfl) fun _ _ _ => .rfl)
    ?_ (fun h c n ha => .inl ⟨ha, hm c⟩) hs.whole fun st k hk b kb hb hkb => ?_
  · exact mem_put_append.trans (by simp [hx])
  · rw [hfound]
    obtain ⟨h1, h2, h3, h4, h5, h6, h7, h8⟩ := hs.sound hj
    have tag := hs.tag hj
    refine .of_some tag ⟨h1, h2, h3, h4, h5, h6, h7, h8⟩
      (fun c => mem_put_append.trans ?_) (fun c => ?_) fun n => ?_
    · simp [hid c, eq_comm]
    · exact iff_of_false (hm c) (by simp [Job.inPass])
    · exact iff_of_false (he n) (by simp)
  · rw [hfound] at hk
    cases hk
    exact ⟨fun h => (by cases h), fun h => (by cases h)⟩

/-- A pass that starts over, its conversion aborted and its account topped up (R80, R109). -/
theorem Orderly.restarted (hs : s.Orderly strict) (hj : s.findJob id = some j) (hp : j.inPass)
    (hx : j.state = .running → s.executes id = true)
    (jobs : t.jobs = (s.updateJob id Job.restart).jobs) (ready : t.ready = s.ready)
    (marker : t.marker = s.marker)
    (converter : t.converter = if s.executes id then none else s.converter)
    (completion : t.completion = s.completion)
    (account : ∀ h c, t.account h c =
      if h = id.owner ∧ c = j.cls then (s.account h c).map (· + j.produced) else s.account h c) :
    t.Orderly strict := by
  have hfound : t.findJob id = some j.restart := findJob_update (by intro; rfl) jobs hj
  have hm : s.marker.get j.cls = some id := (hs.marker_iff hj).mpr ⟨rfl, hp⟩
  have engaged_t : s.executes id = true ∧ t.engaged = none ∧ (∃ n, s.engaged = some (id, n)) ∨
      s.executes id = false ∧ t.engaged = s.engaged ∧ ∀ n, s.engaged ≠ some (id, n) := by
    cases he : s.executes id with
    | false =>
      rw [he] at converter
      refine .inr ⟨rfl, engaged_congr converter completion, fun n hn => ?_⟩
      have := hx ((hs.engaged_iff hj).mp hn).1
      rw [he] at this
      cases this
    | true =>
      rw [he] at converter
      cases hc : s.converter with
      | none => simp [executes, hc] at he
      | some ctx =>
        have hid : ctx.job = id := by simpa [executes, hc] using he
        refine .inl ⟨rfl, ?_, ctx.index, hid ▸ engaged_of_converter hc⟩
        rw [engaged_of_idle converter, reporting_congr completion]
        exact reporting_of_not_waiting (hs.not_waiting_of_busy hc)
  refine hs.turn (id := id) (turns_of_update (by intro; rfl) jobs (by rw [ready]; exact fun _ h => h)
    (by rw [ready]; exact fun _ _ _ => .rfl) (by rw [marker]; exact fun _ _ _ => .rfl) fun x n hne => ?_)
    ?_ (fun h c n ha => ?_) (fun c hc => ?_) fun st k hk b kb hb hkb => ?_
  · rcases engaged_t with ⟨-, e, m, e'⟩ | ⟨-, e, -⟩
    · rw [e, e']
      exact iff_of_false (by simp) (by simp [Ne.symm hne])
    · rw [e]
  · rw [hfound]
    obtain ⟨h1, h2, h3, h4, h5, h6, h7, h8⟩ := hs.sound hj
    have tag := hs.tag hj
    refine .of_some tag ⟨h1, Nat.lt_of_lt_of_le Nat.zero_lt_one h1.1, h3, h4, Nat.le_refl 0, h6, h7, h8⟩
      (fun c => ?_) (fun c => ?_) fun n => ?_
    · rw [ready, hs.ready_iff hj]
      refine iff_of_false (fun h => ?_) (fun h => by cases h.2)
      simp [Job.inPass, h.2] at hp
    · rw [marker, hs.marker_iff hj]
      exact and_congr_right fun _ => iff_of_true hp rfl
    · refine iff_of_false (fun h => ?_) (fun h => by cases h.1)
      rcases engaged_t with ⟨-, e, -⟩ | ⟨-, e, hn⟩
      · rw [e] at h; cases h
      · exact hn n (e ▸ h)
  · rw [account] at ha
    by_cases hmc : s.marker.get c = some id
    · right
      obtain ⟨hcls, -⟩ := (hs.marker_iff hj).mp hmc
      subst hcls
      refine ⟨by rw [marker]; exact hmc, ?_⟩
      have old {m} (hold : s.account h j.cls = some m) : id.owner = h ∧ m + j.produced = j.entries.length := by
        obtain ⟨x, k, hk, hmx, ho, hn⟩ := hs.account h j.cls m hold
        cases hmc.symm.trans hmx
        cases hj.symm.trans hk
        exact ⟨ho, hn⟩
      split at ha
      · obtain ⟨m, hold, rfl⟩ := Option.map_eq_some_iff.mp ha
        obtain ⟨ho, hn⟩ := old hold
        exact ⟨ho, _, hfound, hn⟩
      · next hne => exact absurd ⟨(old ha).1.symm, rfl⟩ hne
    · left
      rw [if_neg fun h => hmc (by rw [h.2]; exact hm)] at ha
      exact ⟨ha, hmc⟩
  · rw [completion] at hc
    rw [converter]
    split
    · exact (hs.whole c hc).emptied
    · exact hs.whole c hc
  · rw [hfound] at hk
    cases hk
    refine ⟨fun h => (by cases h), fun _ rb => ?_⟩
    rcases Job.inPass_iff.mp hp with rj | sj
    · exact absurd (hs.running_unique hkb hj rb rj) hb
    · exact hs.rank st b id kb j hkb hj rb sj

theorem executes_congr (h : t.converter = s.converter) (x : JobId) : t.executes x = s.executes x := by
  unfold executes; rw [h]

theorem acceptRestart_fields (s : State) (j : Job) :
    (s.acceptRestart j).jobs = (s.updateJob j.id Job.restart).jobs ∧
    (s.acceptRestart j).ready = s.ready ∧ (s.acceptRestart j).marker = s.marker ∧
    (s.acceptRestart j).converter = (if s.executes j.id then none else s.converter) ∧
    (s.acceptRestart j).completion = s.completion ∧ (s.acceptRestart j).results = s.results := by
  unfold acceptRestart
  cases s.executes j.id <;> exact ⟨rfl, rfl, rfl, rfl, rfl, rfl⟩

theorem setAccount_account (h : HostId) (c : JobClass) (a : Option Nat) (g : HostId) (d : JobClass) :
    (s.setAccount h c a).account g d = if g = h ∧ d = c then a else s.account g d := by
  unfold account setAccount
  rw [setResultQueue_resultQueue]
  by_cases hg : g = h
  · subst hg
    simp [PerClass.get_put]
  · simp [hg]

theorem account_congr (hr : t.results = s.results) (h : HostId) (c : JobClass) :
    t.account h c = s.account h c := by
  unfold account resultQueue; rw [hr]

theorem Orderly.restartPass (hs : s.Orderly strict) (hj : s.findJob j.id = some j) (hp : j.inPass) :
    (s.restartPass j).Orderly strict := by
  rcases s.restartPass_cases j with ⟨-, -, e⟩ | ⟨hx, ⟨ha, e⟩ | ⟨held, ha, e⟩⟩
  · rw [e]; exact hs.overrun j
  · rw [e]
    obtain ⟨h1, h2, h3, h4, h5, h6⟩ := s.acceptRestart_fields j
    refine hs.restarted hj hp hx h1 h2 h3 h4 h5 fun h c => ?_
    rw [account_congr h6]
    split
    · next hc => rw [hc.1, hc.2, ha]; rfl
    · rfl
  · rw [e]
    split
    · obtain ⟨h1, h2, h3, h4, h5, h6⟩ :=
        (s.setAccount j.id.owner j.cls (some (held + j.produced))).acceptRestart_fields j
      refine hs.restarted hj hp hx h1 h2 h3 h4 h5 fun h c => ?_
      rw [account_congr h6, setAccount_account]
      split
      · next hc => rw [hc.1, hc.2, ha]; rfl
      · rfl
    · exact hs.overrun j

theorem Orderly.arrival (hs : s.Orderly strict) (id : JobId) : (s.arrival id).Orderly strict := by
  unfold State.arrival
  split
  · exact hs
  · next j hj =>
    have hid := s.findJob_id hj
    split
    · next ha => exact hs.makeReady hj ha
    · exact hs.overrun j
    · next hp _ => exact hs.holdArrival (hid ▸ hj) hp
    · exact hs.overrun j
    · next harmed hready =>
      exact hs.restartPass (hid ▸ hj) (Job.inPass_of_not harmed hready)

/-! ### Selections (R37 to R41) -/

/-- A job whose cursor lies within its entries has a conversion to start (R55). -/
theorem startConversion_starts (hj : s.findJob id = some j) (hc : j.cursor < j.entries.length) :
    ∃ ctx : Context, ctx.job = id ∧ ctx.index = j.cursor ∧ ctx.phase = .sampling ∧
      s.startConversion id = s.setConverter (some ctx) := by
  unfold startConversion
  rw [hj]
  dsimp only
  rw [List.getElem?_eq_getElem hc]
  exact ⟨_, rfl, rfl, rfl, rfl⟩

/-- With the converter idle and no report waiting the part is at work for no job. -/
theorem engaged_none (hi : s.converter = none)
    (hw : s.selectionWaits = false) : s.engaged = none :=
  (engaged_of_idle hi).trans (reporting_of_not_waiting hw)

theorem Orderly.not_running_of_idle (hs : s.Orderly strict) (he : s.engaged = none)
    (hj : s.findJob id = some j) : j.state ≠ .running := fun h => by
  have := (hs.engaged_iff hj).mpr ⟨h, rfl⟩
  rw [he] at this
  cases this

/-- At a selection no job is RUNNING, so that none yields (R20, R36). -/
theorem Orderly.yield_idle (hs : s.Orderly strict) (he : s.engaged = none) (c : JobClass) :
    s.setJobs (s.jobs.map (Job.yieldTo c)) = s := by
  have same : s.jobs.map (Job.yieldTo c) = s.jobs := by
    refine (List.map_congr_left fun j hj => ?_).trans (List.map_id _)
    exact if_neg fun h => hs.not_running_of_idle he (s.findJob_of_mem hs.names hj) h.1
  rw [same]
  rfl

/-- The class that is served is the highest that qualifies (R37). -/
theorem chosenClass_highest {c d : JobClass} (hc : s.chosenClass = some c) (hd : s.qualifies d = true) :
    c.rank ≤ d.rank := by
  simp only [chosenClass, allClasses, List.find?_cons, List.find?_nil] at hc
  cases d with
  | urgent => rw [hd] at hc; cases hc; exact Nat.le_refl _
  | normal =>
    rw [hd] at hc
    split at hc
    · cases hc; decide
    · cases hc; decide
  | background => cases c <;> decide

theorem rank_injective {c d : JobClass} (h : c.rank = d.rank) : c = d := by
  cases c <;> cases d <;> simp [JobClass.rank] at h ⊢

/-- A SUSPENDED job at a selection is of a lower class than the one served, or is served itself
(R37, R47). -/
theorem Orderly.rank_lt_of_chosen (hs : s.Orderly strict) {c : JobClass} (hc : s.chosenClass = some c)
    (hj : s.findJob id = some j) (hp : j.inPass) (hm : s.marker.get c ≠ some id) :
    c.rank < j.cls.rank := by
  have hq : s.qualifies j.cls = true := by
    simp [qualifies, (hs.marker_iff hj).mpr ⟨rfl, hp⟩]
  refine Nat.lt_of_le_of_ne (chosenClass_highest hc hq) fun e => hm ?_
  rw [rank_injective e]
  exact (hs.marker_iff hj).mpr ⟨rfl, hp⟩

/-- The served pass, RUNNING with a conversion for its cursor: a turn of its job, after which the part is
at work for it (R38, R40, R41). -/
theorem Orderly.served (hs : s.Orderly strict) {c : JobClass} (hi : s.converter = none)
    (hw : s.selectionWaits = false) (hc : s.chosenClass = some c) (hj : s.findJob id = some j)
    (hcls : j.cls = c) (hm : s.marker.get c = none ∨ s.marker.get c = some id) {f : Job → Job}
    (hf : ∀ k, (f k).id = k.id) (hfc : (f j).cls = j.cls) (hfs : (f j).state = .running)
    (sound : (f j).Sound) (jobs : t.jobs = (s.updateJob id f).jobs)
    (ready : ∀ d, t.ready.get d = (s.ready.get d).erase id)
    (marker : t.marker = s.marker.put c (some id)) {ctx : Context} (converter : t.converter = some ctx)
    (hjob : ctx.job = id) (hindex : ctx.index = (f j).cursor) (sampling : ctx.phase = .sampling)
    (completion : t.completion = s.completion)
    (account : ∀ h d n, t.account h d = some n → d = c ∧ h = id.owner ∧ n + (f j).produced = (f j).entries.length ∨
      s.account h d = some n ∧ d ≠ c) :
    t.Orderly strict := by
  have hidle := engaged_none hi hw
  have hfound : t.findJob id = some (f j) := findJob_update hf jobs hj
  have hengaged : t.engaged = some (id, (f j).cursor) := by
    rw [engaged_of_converter converter, hjob, hindex]
  have hmarker (d : JobClass) : t.marker.get d = if d = c then some id else s.marker.get d := by
    rw [marker, PerClass.get_put]
  refine hs.turn (id := id) (turns_of_update hf jobs (fun d h => by rw [ready]; exact h.erase id)
    (fun d x hx => by rw [ready]; exact List.mem_erase_of_ne hx) (fun d x hx => ?_) fun x n hx => ?_)
    ?_ (fun h d n ha => ?_) (fun x hx => ?_) fun st k hk b kb hb hkb => ?_
  · rw [hmarker]
    split
    · next e =>
      subst e
      rcases hm with h | h <;> simp [h, Ne.symm hx]
    · rfl
  · rw [hengaged, hidle]
    exact iff_of_false (by simp [Ne.symm hx]) (by simp)
  · rw [hfound]
    have tag := hs.tag hj
    refine .of_some (by rw [hf]; exact tag) sound (fun d => ?_) (fun d => ?_) fun n => ?_
    · rw [ready, hfs]
      exact iff_of_false (fun h => (hs.once d).not_mem_erase h) (by simp)
    · rw [hmarker, hfc, hcls]
      refine ⟨fun h => ⟨?_, Job.inPass_of_running hfs⟩, fun h => if_pos h.1.symm⟩
      by_contra hne
      rw [if_neg (Ne.symm hne)] at h
      exact hne (hcls ▸ ((hs.marker_iff hj).mp h).1)
    · rw [hengaged, hfs]
      simp
  · rcases account h d n ha with ⟨rfl, rfl, hn⟩ | ⟨hold, hne⟩
    · exact .inr ⟨by rw [hmarker, if_pos rfl], rfl, f j, hfound, hn⟩
    · exact .inl ⟨hold, fun h => hne (hcls ▸ ((hs.marker_iff hj).mp h).1.symm)⟩
  · rw [completion] at hx
    refine (hs.whole x hx).change (fun hl => ?_) fun y hy => ?_
    · have := selectionWaits_iff.mpr ⟨x, hx, hl⟩
      rw [hw] at this
      cases this
    · rw [converter] at hy
      cases hy
      exact sampling
  · rw [hfound] at hk
    cases hk
    refine ⟨fun _ sb => ?_, fun h => by rw [hfs] at h; cases h⟩
    rw [hfc, hcls]
    refine hs.rank_lt_of_chosen hc hkb (Job.inPass_of_suspended sb) fun h => ?_
    rcases hm with e | e <;> rw [e] at h <;> cases h
    exact hb rfl

/-- The reservation of a grant changes one account, or none (R74). -/
theorem reserve_account (s : State) (j : Job) (h : HostId) (d : JobClass) :
    (s.reserve j).account h d = s.account h d ∨
      h = j.id.owner ∧ d = j.cls ∧ (s.reserve j).account h d = some j.entries.length := by
  unfold reserve
  split
  · rw [setAccount_account]
    split
    · next e => exact .inr ⟨e.1, e.2, rfl⟩
    · exact .inl rfl
  · exact .inl rfl

theorem reserve_fields (s : State) (j : Job) : (s.reserve j).jobs = s.jobs ∧
    (s.reserve j).ready = s.ready ∧ (s.reserve j).marker = s.marker ∧
    (s.reserve j).completion = s.completion := by
  unfold reserve
  split <;> exact ⟨rfl, rfl, rfl, rfl⟩

/-- A grant takes the job's conversion up at entry 0 (R40). -/
theorem grant_fields {j : Job} (hj : s.findJob j.id = some j) (hl : 0 < j.entries.length) :
    ∃ ctx : Context, ctx.job = j.id ∧ ctx.index = 0 ∧ ctx.phase = .sampling ∧
      (s.grant j).converter = some ctx ∧ (s.grant j).jobs = (s.updateJob j.id Job.granted).jobs ∧
      (s.grant j).ready = s.ready.put j.cls ((s.ready.get j.cls).erase j.id) ∧
      (s.grant j).marker = s.marker.put j.cls (some j.id) ∧ (s.grant j).completion = s.completion ∧
      ∀ h d, (s.grant j).account h d = s.account h d ∨
        h = j.id.owner ∧ d = j.cls ∧ (s.grant j).account h d = some j.entries.length := by
  let u := ((s.setReady j.cls ((s.ready.get j.cls).erase j.id)).setMarker j.cls (some j.id)).setRotation
    j.cls j.id.owner
  obtain ⟨hjobs, hready, hmarker, hcompl⟩ := u.reserve_fields j
  have hju : (u.reserve j).findJob j.id = some j := (findJob_congr hjobs _).trans hj
  have hg := findJob_update (s := u.reserve j) (f := Job.granted) (by intro; rfl) rfl hju
  obtain ⟨ctx, h1, h2, h3, e⟩ := startConversion_starts hg hl
  have e : s.grant j = ((u.reserve j).updateJob j.id Job.granted).setConverter (some ctx) := e
  have jobs : ((u.reserve j).updateJob j.id Job.granted).jobs = (s.updateJob j.id Job.granted).jobs := by
    unfold updateJob; rw [hjobs]; rfl
  rw [e]
  exact ⟨ctx, h1, h2, h3, rfl, jobs, hready, hmarker, hcompl, fun h d => u.reserve_account j h d⟩

theorem Orderly.grant (hs : s.Orderly strict) (hi : s.converter = none) (hw : s.selectionWaits = false)
    (hc : s.chosenClass = some j.cls) (hj : s.findJob j.id = some j) (hm : s.marker.get j.cls = none) :
    (s.grant j).Orderly strict := by
  obtain ⟨h1, h2, h3, h4, h5, h6, h7, h8⟩ := hs.sound hj
  have hl : 0 < j.entries.length := h1.1
  obtain ⟨ctx, hjob, hindex, hphase, hx, hjobs, hready, hmarker, hcompl, hacct⟩ := grant_fields hj hl
  refine hs.served hi hw hc hj rfl (.inl hm) (f := Job.granted) (by intro; rfl) rfl rfl
    ⟨h1, hl, h3, h4, Nat.le_refl 0, Nat.zero_le _, h7, h8⟩ hjobs (fun d => ?_) hmarker hx hjob hindex hphase
    hcompl fun h d n ha => ?_
  · rw [hready, PerClass.get_put]
    split
    · next e => rw [e]
    · next hne =>
      refine (List.erase_of_not_mem fun h => hne ?_).symm
      exact ((hs.ready_iff hj).mp h).1.symm
  · rcases hacct h d with e | ⟨ho, hd, e⟩
    · rw [e] at ha
      refine .inr ⟨ha, fun hd => ?_⟩
      obtain ⟨_, _, -, hx, -⟩ := hs.account h d n ha
      rw [hd, hm] at hx
      cases hx
    · rw [e] at ha
      cases ha
      exact .inl ⟨hd, ho, rfl⟩

/-- A selection that serves a class: the job of its pass, found in it, or the chosen job. -/
theorem Orderly.serve (hs : s.Orderly strict) {c : JobClass} (hi : s.converter = none)
    (hw : s.selectionWaits = false) (hc : s.chosenClass = some c) : (s.serve c).Orderly strict := by
  have hidle := engaged_none hi hw
  have hy := hs.yield_idle hidle c
  rcases s.serve_cases c with ⟨id, hm, e⟩ | ⟨j, hm, hj, e⟩ | ⟨-, -, e⟩
  · rw [e, hy]
    obtain ⟨j, hj, hcls, hp⟩ := hs.found_of_marker hm
    obtain ⟨h1, h2, h3, h4, h5, h6, h7, h8⟩ := hs.sound hj
    have hf := findJob_update (s := s) (f := fun j => { j with state := .running }) (by intro; rfl) rfl hj
    obtain ⟨ctx, hjob, hindex, hphase, e⟩ := startConversion_starts hf h2
    unfold resume
    rw [e]
    refine hs.served hi hw hc hj hcls (.inr hm) (f := fun j => { j with state := .running }) (by intro; rfl)
      rfl rfl ⟨h1, h2, h3, h4, h5, h6, h7, h8⟩ rfl (fun d => ?_) ?_ rfl hjob hindex hphase rfl fun h d n ha => ?_
    · refine (List.erase_of_not_mem fun h => ?_).symm
      have := ((hs.ready_iff hj).mp h).2
      simp [Job.inPass, this] at hp
    · rw [← hm, PerClass.put_get]; rfl
    · have ha : s.account h d = some n := ha
      by_cases hd : d = c
      · subst hd
        obtain ⟨x, k, hk, hx, ho, hn⟩ := hs.account h d n ha
        cases hm.symm.trans hx
        cases hj.symm.trans hk
        exact .inl ⟨rfl, ho.symm, hn⟩
      · exact .inr ⟨ha, hd⟩
  · rw [e, hy]
    obtain ⟨hready, hfound, -⟩ := s.mem_eligibleJobs (s.chosenJob_mem hj)
    obtain ⟨rfl, -⟩ := (hs.ready_iff hfound).mp hready
    exact hs.grant hi hw hc hfound hm
  · rw [e, hy]; exact hs

theorem Orderly.select (hs : s.Orderly strict) : s.select.Orderly strict := by
  rcases s.select_cases with e | ⟨c, hw, hi, hc, e⟩
  · rw [e]; exact hs
  · rw [e]; exact hs.serve hi hw hc

/-- The conversion of the RUNNING job aborted and the job SUSPENDED at its cursor (R20, R44). -/
theorem Orderly.preempt (hs : s.Orderly strict) : s.preempt.Orderly strict := by
  cases hx : s.converter with
  | none => unfold State.preempt; rw [hx]; exact hs
  | some ctx =>
    have e : s.preempt = (s.updateJob ctx.job Job.preempted).abort := by simp [State.preempt, hx]
    rw [e]
    obtain ⟨j, hj, hr, hn⟩ := hs.found_of_engaged (engaged_of_converter hx)
    have hfound : ((s.updateJob ctx.job Job.preempted).abort).findJob ctx.job = some j.preempted :=
      findJob_update (by intro; rfl) rfl hj
    have hengaged : ((s.updateJob ctx.job Job.preempted).abort).engaged = none :=
      (engaged_of_idle rfl).trans (reporting_of_not_waiting (hs.not_waiting_of_busy hx))
    refine hs.turn (id := ctx.job) (turns_of_update (f := Job.preempted) (by intro; rfl) rfl (fun _ h => h)
      (fun _ _ _ => .rfl) (fun _ _ _ => .rfl) fun x n hne => ?_) ?_ (fun h c n ha => ?_)
      (fun c hc => (hs.whole c hc).emptied) fun st k hk b kb hb hkb => ?_
    · rw [hengaged, engaged_of_converter hx]
      exact iff_of_false (by simp) (by simp [Ne.symm hne])
    · rw [hfound]
      obtain ⟨h1, h2, h3, h4, h5, h6, h7, h8⟩ := hs.sound hj
      have tag := hs.tag hj
      refine .of_some tag ⟨h1, h2, h3, h4, h5, h6, h7, h8⟩ (fun c => ?_) (fun c => ?_) fun n => ?_
      · exact (hs.ready_iff hj).trans (iff_of_false (by simp [hr]) (by simp [Job.preempted]))
      · exact (hs.marker_iff hj).trans (and_congr_right fun _ => iff_of_true (Job.inPass_of_running hr) rfl)
      · rw [hengaged]
        exact iff_of_false (by simp) (by simp [Job.preempted])
    · by_cases hm : s.marker.get c = some ctx.job
      · obtain ⟨x, k, hk, hmx, ho, hn⟩ := hs.account h c n ha
        cases hm.symm.trans hmx
        cases hj.symm.trans hk
        exact .inr ⟨hm, ho, _, hfound, hn⟩
      · exact .inl ⟨ha, hm⟩
    · rw [hfound] at hk
      cases hk
      exact ⟨fun h => (by cases h), fun _ rb => absurd (hs.running_unique hkb hj rb hr) hb⟩

end State
end Sys2Proof.Machine

/-! PROOFS. The Job Table's share of a completion, the removals and the admission keep the laws of the
scheduler (sections 1.3, 1.4, 1.5, 4.3, 8.5). -/

namespace Sys2Proof.Machine

/-- A job at the end of its pass, up to the state it is disposed to (R22, R23). -/
theorem Job.Sound.endPass {j k : Job} (h : j.Sound)
    (counts : k = { j with produced := k.produced, discarded := k.discarded })
    (hl : ¬ (k.endPass.passLimit ≠ 0 ∧ k.endPass.passesDone = k.endPass.passLimit)) : k.endPass.Sound := by
  obtain ⟨h1, h2, h3, h4, h5, h6, h7, h8⟩ := h
  rw [counts] at hl ⊢
  refine ⟨h1, Nat.lt_of_lt_of_le Nat.zero_lt_one h1.1, Nat.min_le_left .., h4, Nat.le_refl 0, Nat.zero_le _,
    fun hp => ?_, h8⟩
  unfold Job.endPass at hl hp ⊢
  dsimp only at hl hp ⊢
  have := h7 hp
  have : ¬ min 65535 (j.passesDone + 1) = j.passLimit := fun e => hl ⟨hp, e⟩
  omega

/-- What is left open once the Job Table has its share: the same report, with each thing once. -/
theorem Completion.Open.withoutJob {c d : Completion} {x : Option Context} (h : c.Open x)
    (hd : c.without .job = some d) : d.Open none ∧ .job ∉ d.left := by
  obtain ⟨-, hl, hne⟩ := State.without_some hd
  have hnodup : c.left.Nodup := h.order.nodup (by decide)
  have hno : CompletionShare.job ∉ d.left := hl ▸ hnodup.not_mem_erase
  exact ⟨⟨hne, (hl ▸ List.erase_sublist).trans h.order, fun hj => absurd hj hno, fun _ => rfl, by simp⟩, hno⟩

/-- With the Job Table's share behind it the part is at work for no job. -/
theorem Completion.Open.taken {t : State} {c : Completion} {x : Option Context} (h : c.Open x)
    (converter : t.converter = none) (completion : t.completion = c.without .job) :
    t.engaged = none ∧ ∀ d ∈ t.completion, d.Open t.converter := by
  rw [converter]
  refine ⟨?_, fun d hd => (h.withoutJob (completion ▸ hd)).1⟩
  rw [State.engaged_of_idle converter]
  unfold State.reporting
  cases hd : t.completion with
  | none => rfl
  | some d => simp [(h.withoutJob (completion ▸ hd)).2]

namespace State

variable {s t : State} {strict : Prop} {id : JobId} {j : Job}

/-! ### Passes that end and jobs that go -/

/-- The names of `gone` leave their passes, the lists follow, and every other name stays as it was. -/
theorem Orderly.released (hs : s.Orderly strict) {gone : JobId → Prop}
    (names : (t.jobs.map Job.id).Nodup) (once : ∀ c, (t.ready.get c).Nodup)
    (found : ∀ x, ¬ gone x → t.findJob x = s.findJob x)
    (out : ∀ x, gone x → ∀ k, t.findJob x = some k → k.id.tag ≠ 0 ∧ k.Sound ∧ ¬ k.inPass)
    (ready : ∀ c x, ¬ gone x → (x ∈ t.ready.get c ↔ x ∈ s.ready.get c))
    (listed : ∀ c x, gone x →
      (x ∈ t.ready.get c ↔ ∃ k, t.findJob x = some k ∧ k.cls = c ∧ k.state = .ready))
    (marker : ∀ c x, t.marker.get c = some x ↔ s.marker.get c = some x ∧ ¬ gone x)
    (engaged : ∀ x n, t.engaged = some (x, n) ↔ s.engaged = some (x, n) ∧ ¬ gone x)
    (account : ∀ h c n, t.account h c = some n →
      s.account h c = some n ∧ ∀ x, s.marker.get c = some x → ¬ gone x)
    (whole : ∀ c ∈ t.completion, c.Open t.converter) : t.Orderly strict := by
  have kept {x : JobId} {k : Job} (hk : t.findJob x = some k) (hp : k.inPass) :
      ¬ gone x ∧ s.findJob x = some k := by
    by_cases hg : gone x
    · exact absurd hp (out x hg k hk).2.2
    · exact ⟨hg, found x hg ▸ hk⟩
  refine ⟨names, once, fun x => ?_, fun h c n ha => ?_, whole, fun st a b k l hk hl rk sl => ?_⟩
  · by_cases hg : gone x
    · have outPass {k} (hk : k ∈ t.findJob x) : ¬ k.inPass := (out x hg k hk).2.2
      refine ⟨fun k hk => ⟨(out x hg k hk).1, (out x hg k hk).2.1⟩, fun c => listed c x hg,
        fun c => (marker c x).trans ?_, fun n => (engaged x n).trans ?_⟩
      · exact iff_of_false (fun h => h.2 hg) fun ⟨k, hk, _, hp⟩ => outPass hk hp
      · exact iff_of_false (fun h => h.2 hg) fun ⟨k, hk, hr, _⟩ => outPass hk (Job.inPass_of_running hr)
    · obtain ⟨h1, h2, h3, h4⟩ := hs.at_name x
      rw [found x hg]
      exact ⟨h1, fun c => (ready c x hg).trans (h2 c),
        fun c => (marker c x).trans ((and_iff_left hg).trans (h3 c)),
        fun n => (engaged x n).trans ((and_iff_left hg).trans (h4 n))⟩
  · obtain ⟨hold, hkept⟩ := account h c n ha
    obtain ⟨x, k, hk, hm, ho, hn⟩ := hs.account h c n hold
    have hg := hkept x hm
    exact ⟨x, k, (found x hg).trans hk, (marker c x).mpr ⟨hm, hg⟩, ho, hn⟩
  · exact hs.rank st a b k l (kept hk (Job.inPass_of_running rk)).2 (kept hl (Job.inPass_of_suspended sl)).2
      rk sl

theorem findJob_filter (p : JobId → Bool) (x : JobId) :
    (s.setJobs (s.jobs.filter fun k => p k.id)).findJob x = if p x then s.findJob x else none := by
  unfold findJob
  rw [setJobs_jobs, List.find?_filter]
  split
  · next h =>
    refine List.find?_congr fun k _ => ?_
    by_cases hk : k.id = x <;> simp [hk, h]
  · next h =>
    rw [List.find?_eq_none]
    intro k _ hk
    obtain ⟨h1, h2⟩ : p k.id = true ∧ k.id = x := by simpa using hk
    exact h (h2 ▸ h1)

theorem nodup_filter (p : Job → Bool) (h : (s.jobs.map Job.id).Nodup) :
    ((s.jobs.filter p).map Job.id).Nodup := h.sublist ((List.filter_sublist ..).map _)

theorem post_rest (s : State) (h : HostId) (kind : NoticeKind) (subject : Byte) (detail : Nat) :
    s.post h kind subject detail = { s with notices := (s.post h kind subject detail).notices } := by
  unfold post
  split <;> rfl

theorem updateJob_jobs_updateJob (s : State) (id : JobId) {f g : Job → Job} (hf : ∀ k, (f k).id = k.id) :
    ((s.updateJob id f).updateJob id g).jobs = (s.updateJob id (g ∘ f)).jobs := by
  simp only [updateJob, setJobs_jobs, List.map_map]
  refine List.map_congr_left fun k _ => ?_
  by_cases h : k.id = id <;> simp [h, hf]

theorem updateJob_jobs_congr (h : t.jobs = s.jobs) (id : JobId) (f : Job → Job) :
    (t.updateJob id f).jobs = (s.updateJob id f).jobs := by
  unfold updateJob; rw [h]; rfl

/-! ### The offer of a record (R75, R76) -/

theorem offer_jobs (s : State) (id : JobId) (c : JobClass) (r : ResultRecord) :
    (∃ left, s.account id.owner c = some (left + 1) ∧
      (s.offer id c r).jobs = (s.updateJob id Job.countPlaced).jobs ∧
      ∀ h d, (s.offer id c r).account h d = if h = id.owner ∧ d = c then some left else s.account h d) ∨
    (∀ left, s.account id.owner c ≠ some (left + 1)) ∧
      ((s.offer id c r).jobs = (s.updateJob id Job.countPlaced).jobs ∨
        (s.offer id c r).jobs = (s.updateJob id Job.countDropped).jobs) ∧
      ∀ h d, (s.offer id c r).account h d = s.account h d := by
  have appended {u : State} (r : ResultRecord) (h d) :
      (u.appendRecord id.owner r).account h d = u.account h d := by
    unfold account
    by_cases hg : h = id.owner
    · rw [hg, appendRecord_resultQueue]
    · rw [(u.appendRecord_rest id.owner r).2 h hg]
  have jobs {u : State} (r : ResultRecord) : (u.appendRecord id.owner r).jobs = u.jobs := by
    rw [(u.appendRecord_rest id.owner r).1]
  unfold offer
  rcases (s.resultQueue id.owner).placement_cases c with ⟨left, ha, hp⟩ | ⟨ha, -, hp⟩ | ⟨ha, -, hp⟩
  · simp only [hp]
    exact .inl ⟨left, ha, updateJob_jobs_congr (jobs _) .., fun h d => (appended _ h d).trans (setAccount_account ..)⟩
  · simp only [hp]
    exact .inr ⟨ha, .inl (updateJob_jobs_congr (jobs _) ..), fun h d => appended _ h d⟩
  · simp only [hp]
    refine .inr ⟨ha, .inr rfl, fun h d => ?_⟩
    unfold account
    rw [show (updateJob _ id Job.countDropped).resultQueue h = (s.setResultQueue id.owner _).resultQueue h from rfl,
      setResultQueue_resultQueue]
    split
    · next e => rw [e]
    · rfl

/-- What the offer of a completion's record leaves of the job and of its pass's account: nothing but two
counts move, and the account still makes up the places (R11, R73, R75). -/
structure Offered (s u : State) (j k : Job) : Prop where
  jobs : ∃ f : Job → Job, (∀ x, (f x).id = x.id) ∧ f j = k ∧ u.jobs = (s.updateJob j.id f).jobs
  counts : k = { j with produced := k.produced, discarded := k.discarded }
  produced : k.produced ≤ j.produced + 1
  discarded : k.discarded ≤ 16
  rest : u.ready = s.ready ∧ u.marker = s.marker ∧ u.converter = s.converter ∧ u.completion = s.completion
  account : ∀ h d n, u.account h d = some n →
    h = j.id.owner ∧ d = j.cls ∧ n + k.produced = j.entries.length ∨ s.account h d = some n ∧ d ≠ j.cls

theorem Orderly.offered (hs : s.Orderly strict) (hj : s.findJob j.id = some j) (hp : j.inPass) (r : Report) :
    ∃ k, s.Offered (s.offerRecord j r) j k := by
  have sound := hs.sound hj
  have hm : s.marker.get j.cls = some j.id := (hs.marker_iff hj).mpr ⟨rfl, hp⟩
  have own {h n} (ha : s.account h j.cls = some n) : h = j.id.owner ∧ n + j.produced = j.entries.length := by
    obtain ⟨x, k, hk, hx, ho, hn⟩ := hs.account h j.cls n ha
    cases hm.symm.trans hx
    cases hj.symm.trans hk
    exact ⟨ho.symm, hn⟩
  unfold offerRecord
  split
  · have hrest := (s.offer_rest j.id j.cls (j.record r (decide (j.entries.length ≤ j.cursor + 1)))).1
    have rest : ∀ u : State, s.offer j.id j.cls (j.record r (decide (j.entries.length ≤ j.cursor + 1))) = u →
        u.ready = s.ready ∧ u.marker = s.marker ∧ u.converter = s.converter ∧ u.completion = s.completion := by
      rintro _ rfl
      rw [hrest]
      exact ⟨rfl, rfl, rfl, rfl⟩
    have empty (hne : ∀ left, s.account j.id.owner j.cls ≠ some (left + 1)) {h d n}
        (ha : s.account h d = some n) : d ≠ j.cls := by
      rintro rfl
      obtain ⟨rfl, hn⟩ := own ha
      cases n with
      | zero => have := sound.produced; have := sound.cursor; omega
      | succ n => exact hne n ha
    rcases s.offer_jobs j.id j.cls (j.record r (decide (j.entries.length ≤ j.cursor + 1))) with
      ⟨left, ha, hjobs, hacct⟩ | ⟨hne, hjobs | hjobs, hacct⟩
    · refine ⟨j.countPlaced, ⟨_, by intro; rfl, rfl, hjobs⟩, rfl, Nat.le_refl _, sound.discarded, rest _ rfl,
        fun h d n e => ?_⟩
      have hn := (own ha).2
      rw [hacct] at e
      split at e
      · next hc =>
        cases e
        refine .inl ⟨hc.1, hc.2, ?_⟩
        unfold Job.countPlaced
        dsimp only
        omega
      · next hc =>
        refine .inr ⟨e, ?_⟩
        rintro rfl
        exact hc ⟨(own e).1, rfl⟩
    · exact ⟨j.countPlaced, ⟨_, by intro; rfl, rfl, hjobs⟩, rfl, Nat.le_refl _, sound.discarded, rest _ rfl,
        fun h d n e => .inr ⟨(hacct h d).symm.trans e, empty hne ((hacct h d).symm.trans e)⟩⟩
    · exact ⟨j.countDropped, ⟨_, by intro; rfl, rfl, hjobs⟩, rfl, Nat.le_succ _, Nat.min_le_left .., rest _ rfl,
        fun h d n e => .inr ⟨(hacct h d).symm.trans e, empty hne ((hacct h d).symm.trans e)⟩⟩
  · refine ⟨j, ⟨fun x => x, by intro; rfl, rfl, ?_⟩, rfl, Nat.le_succ _, sound.discarded, ⟨rfl, rfl, rfl, rfl⟩,
      fun h d n e => ?_⟩
    · simp [updateJob]
    · by_cases hd : d = j.cls
      · subst hd
        exact .inl ⟨(own e).1, rfl, (own e).2⟩
      · exact .inr ⟨e, hd⟩

/-! ### The end of a pass (R22, R23) -/

theorem post_if_rest (s : State) (q : Prop) [Decidable q] (h : HostId) (kind : NoticeKind) (subject : Byte)
    (detail : Nat) : (if q then s.post h kind subject detail else s) =
      { s with notices := (if q then s.post h kind subject detail else s).notices } := by
  split
  · exact s.post_rest ..
  · rfl

theorem closePass_fields (s : State) (j : Job) :
    (s.closePass j).jobs = (s.updateJob j.id Job.endPass).jobs ∧ (s.closePass j).ready = s.ready ∧
    (s.closePass j).marker = s.marker.put j.cls none ∧ (s.closePass j).converter = s.converter ∧
    (s.closePass j).completion = s.completion ∧
    ∀ h d, (s.closePass j).account h d = if h = j.id.owner ∧ d = j.cls then none else s.account h d := by
  unfold closePass
  dsimp only
  rw [post_if_rest, post_if_rest (s.updateJob j.id Job.endPass)]
  exact ⟨rfl, rfl, rfl, rfl, rfl, fun h d => setAccount_account ..⟩

/-- Every disposal (R23): the job goes, or becomes READY, or becomes ARMED. -/
theorem dispose_cases (s : State) (j : Job) :
    ((s.dispose j).marker = s.marker ∧ (s.dispose j).converter = s.converter ∧
      (s.dispose j).completion = s.completion ∧ (s.dispose j).results = s.results) ∧
    (j.passLimit ≠ 0 ∧ j.passesDone = j.passLimit ∧ (s.dispose j).ready = s.ready ∧
        (s.dispose j).jobs = s.jobs.filter (fun k => k.id != j.id) ∨
      ¬ (j.passLimit ≠ 0 ∧ j.passesDone = j.passLimit) ∧ ∃ f : Job → Job, (∀ k, (f k).id = k.id) ∧
        (s.dispose j).jobs = (s.updateJob j.id f).jobs ∧
        ((∃ pending, (pending = true → j.pendingTrigger = true) ∧
            f j = { j with state := .ready, pendingTrigger := pending } ∧
            (s.dispose j).ready = s.ready.put j.cls (s.ready.get j.cls ++ [j.id])) ∨
          f j = { j with state := .armed } ∧ (s.dispose j).ready = s.ready)) := by
  unfold dispose
  split
  · next h =>
    dsimp only
    rw [post_rest]
    exact ⟨⟨rfl, rfl, rfl, rfl⟩, .inl ⟨h.1, h.2, rfl, rfl⟩⟩
  · next h =>
    split
    · refine ⟨⟨rfl, rfl, rfl, rfl⟩, .inr ⟨h, _, ?_, updateJob_jobs_updateJob (s := s) (id := j.id)
        (f := fun k => { k with pendingTrigger := false }) (by intro; rfl),
        .inl ⟨false, by simp, rfl, rfl⟩⟩⟩
      intro k
      rfl
    · split
      · exact ⟨⟨rfl, rfl, rfl, rfl⟩, .inr ⟨h, fun j => { j with state := .ready }, by intro; rfl, rfl,
          .inl ⟨j.pendingTrigger, id, rfl, rfl⟩⟩⟩
      · exact ⟨⟨rfl, rfl, rfl, rfl⟩, .inr ⟨h, fun j => { j with state := .armed }, by intro; rfl, rfl,
          .inr ⟨rfl, rfl⟩⟩⟩

theorem awaitSelection_id (j : Job) : j.awaitSelection.id = j.id := by
  unfold Job.awaitSelection
  split <;> rfl

theorem awaitSelection_of_not_running (h : j.state ≠ .running) : j.awaitSelection = j := if_neg h

/-- An entry that is not the last: the job of the report waits SUSPENDED at the next one (R19, R36). -/
theorem Orderly.advanced (hs : s.Orderly strict) {c : Completion} {x : Option Context} (hc : c.Open x)
    (hj : s.findJob j.id = some j) (hr : j.state = .running) (hlast : j.cursor + 1 < j.entries.length)
    {k : Job} {u : State} (off : s.Offered u j k) {f : Job → Job} (hf : ∀ y, (f y).id = y.id)
    (hfj : f j = { k with redo := false, cursor := k.cursor + 1, state := .suspended })
    (jobs : t.jobs = (s.updateJob j.id f).jobs) (ready : t.ready = s.ready) (marker : t.marker = s.marker)
    (converter : t.converter = none) (completion : t.completion = c.without .job)
    (account : ∀ h d, t.account h d = u.account h d) : t.Orderly strict := by
  obtain ⟨hengaged, hwhole⟩ := hc.taken converter completion
  have hfound : t.findJob j.id = some (f j) := findJob_update hf jobs hj
  have hp := Job.inPass_of_running hr
  have hcur := (hs.engaged_iff hj).mpr ⟨hr, rfl⟩
  have counts := off.counts
  have hcls : k.cls = j.cls := by rw [counts]
  have hent : k.entries = j.entries := by rw [counts]
  refine hs.turn (turns_of_update hf jobs (by rw [ready]; exact fun _ h => h)
    (by rw [ready]; exact fun _ _ _ => .rfl) (by rw [marker]; exact fun _ _ _ => .rfl) fun y n hy => ?_)
    ?_ (fun h d n ha => ?_) hwhole fun st l hl b kb hb hkb => ?_
  · rw [hengaged, hcur]
    exact iff_of_false (by simp) (by simp [Ne.symm hy])
  · rw [hfound, hfj]
    have tag := hs.tag hj
    obtain ⟨h1, h2, h3, h4, h5, h6, h7, h8⟩ := hs.sound hj
    have produced := off.produced
    have discarded := off.discarded
    rw [counts]
    refine .of_some tag ⟨h1, hlast, h3, h4, by dsimp only; omega, discarded, h7, h8⟩
      (fun d => ?_) (fun d => ?_) fun n => ?_
    · rw [ready]
      exact (hs.ready_iff hj).trans (iff_of_false (by simp [hr]) (by simp))
    · rw [marker]
      exact (hs.marker_iff hj).trans (and_congr_right fun _ => iff_of_true hp rfl)
    · rw [hengaged]
      exact iff_of_false (by simp) (by simp)
  · rw [account] at ha
    rcases off.account h d n ha with ⟨rfl, rfl, hn⟩ | ⟨hold, hne⟩
    · refine .inr ⟨by rw [marker]; exact (hs.marker_iff hj).mpr ⟨rfl, hp⟩, rfl, f j, hfound, ?_⟩
      rw [hfj]
      exact hent ▸ hn
    · exact .inl ⟨hold, fun hm => hne ((hs.marker_iff hj).mp hm).1.symm⟩
  · rw [hfound, hfj] at hl
    cases hl
    exact ⟨fun h => (by cases h), fun _ rb => absurd (hs.running_unique hkb hj rb hr) hb⟩

/-- The last entry: the pass is over, and the job READY, ARMED or gone (R22, R23). -/
theorem Orderly.passEnded (hs : s.Orderly strict) {c : Completion} {x : Option Context} (hc : c.Open x)
    (hj : s.findJob j.id = some j) (hr : j.state = .running) {w : State} {o : Option Job}
    (names : (w.jobs.map Job.id).Nodup) (others : ∀ y, y ≠ j.id → w.findJob y = s.findJob y)
    (found : w.findJob j.id = o) (out : ∀ k ∈ o, k.id = j.id ∧ k.Sound ∧ ¬ k.inPass)
    (ready : ∀ d y, y ∈ w.ready.get d ↔ y ∈ s.ready.get d ∨ y = j.id ∧ ∃ k ∈ o, k.cls = d ∧ k.state = .ready)
    (once : ∀ d, (w.ready.get d).Nodup)
    (marker : w.marker = s.marker.put j.cls none) (converter : w.converter = none)
    (completion : w.completion = some c)
    (account : ∀ h d n, w.account h d = some n → s.account h d = some n ∧ d ≠ j.cls) :
    ((w.updateJob j.id Job.awaitSelection).leave .job).Orderly strict := by
  let t := (w.updateJob j.id Job.awaitSelection).leave .job
  obtain ⟨hengaged, hwhole⟩ := hc.taken (t := t) converter (leave_completion _ completion .job)
  have hp := Job.inPass_of_running hr
  have hm : s.marker.get j.cls = some j.id := (hs.marker_iff hj).mpr ⟨rfl, hp⟩
  have hcur := (hs.engaged_iff hj).mpr ⟨hr, rfl⟩
  have tfound : t.findJob j.id = o := by
    refine (w.findJob_updateJob_self awaitSelection_id).trans ?_
    rw [found]
    cases o with
    | none => rfl
    | some k =>
      have hk := (out k rfl).2.2
      exact congrArg some (awaitSelection_of_not_running fun h => hk (Job.inPass_of_running h))
  refine hs.released (t := t) (gone := (· = j.id)) ?_ once (fun y hy => ?_) ?_ (fun d y hy => ?_) ?_
    (fun d y => ?_) (fun y n => ?_) (fun h d n ha => ?_) hwhole
  · exact (w.updateJob_engine j.id awaitSelection_id).ids ▸ names
  · exact (w.findJob_updateJob_ne awaitSelection_id hy).trans (others y hy)
  · rintro _ rfl k hk
    obtain ⟨hid, hsound, hout⟩ := out k (tfound ▸ hk)
    exact ⟨by rw [hid]; exact hs.tag hj, hsound, hout⟩
  · exact (ready d y).trans (or_iff_left fun h => hy h.1)
  · rintro d _ rfl
    rw [tfound]
    exact (ready d _).trans <|
      (or_iff_right fun h => by simpa [hr] using ((hs.ready_iff hj).mp h).2).trans (and_iff_right rfl)
  · rw [show t.marker = s.marker.put j.cls none from marker, PerClass.get_put]
    split
    · next e =>
      subst e
      exact iff_of_false (by simp) fun h => h.2 (Option.some.inj (h.1.symm.trans hm))
    · next hd =>
      refine (and_iff_left_of_imp fun h => ?_).symm
      rintro rfl
      exact hd ((hs.marker_iff hj).mp h).1.symm
  · rw [hengaged, hcur]
    refine iff_of_false (by simp) fun h => h.2 ?_
    exact (congrArg Prod.fst (Option.some.inj h.1)).symm
  · obtain ⟨hold, hne⟩ := account h d n ha
    refine ⟨hold, ?_⟩
    rintro y hy rfl
    exact hne ((hs.marker_iff hj).mp hy).1.symm

/-- The end of the reported job's pass, taken (R22, R23). -/
theorem Orderly.endTaken (hs : s.Orderly strict) {c : Completion} {x : Option Context}
    (hc : s.completion = some c) (hwhole : c.Open x) (hi : s.converter = none)
    (hj : s.findJob j.id = some j) (hr : j.state = .running) (hnready : ∀ d, j.id ∉ s.ready.get d)
    {k : Job} {u : State} (off : s.Offered u j k) :
    (((u.endPass k).updateJob j.id Job.awaitSelection).leave .job).Orderly strict := by
  obtain ⟨f, hf, hfj, hjobs⟩ := off.jobs
  obtain ⟨hready, hmarker, hconv, hcompl⟩ := off.rest
  have hkid : k.id = j.id := by rw [off.counts]
  have hkcls : k.cls = j.cls := by rw [off.counts]
  obtain ⟨vjobs, vready, vmarker, vconv, vcompl, vacct⟩ := u.closePass_fields k
  rw [endPass_eq]
  generalize u.closePass k = v at *
  obtain ⟨⟨dmarker, dconv, dcompl, dresults⟩, hd⟩ := v.dispose_cases k.endPass
  generalize v.dispose k.endPass = w at *
  rw [hkid] at vjobs vacct
  rw [hkcls] at vmarker vacct
  have heid : k.endPass.id = j.id := hkid
  have vjobs' : v.jobs = (s.updateJob j.id (Job.endPass ∘ f)).jobs := by
    rw [vjobs, updateJob_jobs_congr hjobs, updateJob_jobs_updateJob s j.id hf]
  have hv : v.findJob j.id = some k.endPass := by
    rw [← hfj]
    exact findJob_update (f := Job.endPass ∘ f) (by intro y; exact hf y) vjobs' hj
  have account (h d n) (ha : w.account h d = some n) : s.account h d = some n ∧ d ≠ j.cls := by
    rw [account_congr dresults, vacct] at ha
    split at ha
    · cases ha
    · next hne =>
      rcases off.account h d n ha with ⟨h1, h2, -⟩ | hold
      · exact absurd ⟨h1, h2⟩ hne
      · exact hold
  have marker : w.marker = s.marker.put j.cls none := by rw [dmarker, vmarker, hmarker]
  have converter : w.converter = none := by rw [dconv, vconv, hconv, hi]
  have completion : w.completion = some c := by rw [dcompl, vcompl, hcompl, hc]
  have vnames : (v.jobs.map Job.id).Nodup := by
    rw [vjobs', (s.updateJob_engine j.id (by intro y; exact hf y)).ids]
    exact hs.names
  have vothers (y) (hy : y ≠ j.id) : v.findJob y = s.findJob y :=
    (findJob_congr vjobs' y).trans (s.findJob_updateJob_ne (by intro z; exact hf z) hy)
  rcases hd with ⟨-, -, dready, djobs⟩ | ⟨hl, g, hg, djobs, hgk⟩
  · refine hs.passEnded (o := none) hwhole hj hr ?_ (fun y hy => ?_) ?_ (by simp) (fun d y => ?_) (fun d => ?_)
      marker converter completion account
    · rw [djobs]; exact nodup_filter _ vnames
    · rw [findJob_congr (s := v.setJobs _) djobs]
      refine (findJob_filter (s := v) (fun i => i != k.endPass.id) y).trans ?_
      rw [if_pos (by simpa [heid] using hy)]
      exact vothers y hy
    · rw [findJob_congr (s := v.setJobs _) djobs]
      exact (findJob_filter (s := v) (fun i => i != k.endPass.id) j.id).trans (if_neg (by simp [heid]))
    · rw [dready, vready, hready]; simp
    · rw [dready, vready, hready]; exact hs.once d
  · have hsound := (hs.sound hj).endPass off.counts hl
    have wfound : w.findJob j.id = some (g k.endPass) := findJob_update hg (heid ▸ djobs) hv
    refine hs.passEnded hwhole hj hr ?_ (fun y hy => ?_) wfound ?_ (fun d y => ?_) (fun d => ?_)
      marker converter completion account
    · rw [djobs, (v.updateJob_engine _ hg).ids]; exact vnames
    · rw [findJob_congr djobs, v.findJob_updateJob_ne hg (heid ▸ hy)]
      exact vothers y hy
    · rintro _ ⟨⟩
      obtain ⟨h1, h2, h3, h4, h5, h6, h7, h8⟩ := hsound
      rcases hgk with ⟨pending, hpend, e, -⟩ | ⟨e, -⟩
      · rw [e]
        exact ⟨heid, ⟨h1, h2, h3, h4, h5, h6, h7, fun h => h8 (hpend h)⟩, by simp [Job.inPass]⟩
      · rw [e]
        exact ⟨heid, ⟨h1, h2, h3, h4, h5, h6, h7, h8⟩, by simp [Job.inPass]⟩
    · rcases hgk with ⟨pending, -, e, hw⟩ | ⟨e, hw⟩
      · rw [hw, vready, hready, heid, show k.endPass.cls = j.cls from hkcls, mem_put_append, e]
        simp [show k.endPass.cls = j.cls from hkcls, and_comm, eq_comm]
      · rw [hw, vready, hready, e]
        simp
    · rcases hgk with ⟨pending, -, -, hw⟩ | ⟨-, hw⟩
      · rw [hw, vready, hready, heid]
        exact nodup_put_append (hnready _) d (hs.once d)
      · rw [hw, vready, hready]; exact hs.once d

/-- The Job Table's share, taken: the job of the report is SUSPENDED at its next entry, or its pass has
ended and it is READY, ARMED or gone (R19, R22, R23, R36). -/
theorem Orderly.jobTaken (hs : s.Orderly strict) {c : Completion} (hc : s.completion = some c)
    (hl : .job ∈ c.left) :
    (((s.jobShare c.report).updateJob c.report.job Job.awaitSelection).leave .job).Orderly strict := by
  have hwhole := hs.whole c hc
  have hi := hwhole.idle hl
  have hengaged : s.engaged = some (c.report.job, c.report.index) := by
    rw [engaged_of_idle hi]
    exact reporting_eq_some.mpr ⟨c, hc, hl, rfl, rfl⟩
  obtain ⟨j, hj, hr, -⟩ := hs.found_of_engaged hengaged
  have hid := s.findJob_id hj
  rw [← hid] at hj hengaged
  have hp := Job.inPass_of_running hr
  have hm : s.marker.get j.cls = some j.id := (hs.marker_iff hj).mpr ⟨rfl, hp⟩
  have hnready (d) : j.id ∉ s.ready.get d := fun h => by simpa [hr] using ((hs.ready_iff hj).mp h).2
  obtain ⟨k, off⟩ := hs.offered hj hp c.report
  obtain ⟨f, hf, hfj, hjobs⟩ := off.jobs
  obtain ⟨hready, hmarker, hconv, hcompl⟩ := off.rest
  rw [jobShare_some s (hid ▸ hj), ← hid]
  generalize s.offerRecord j c.report = u at *
  have hu : u.findJob j.id = some k := by rw [← hfj]; exact findJob_update hf hjobs hj
  rw [hu]
  dsimp only
  have hkid : k.id = j.id := by rw [off.counts]
  split
  · exact hs.endTaken hc hwhole hi hj hr hnready off
  · next hlast =>
    refine hs.advanced hwhole hj hr (Nat.lt_of_not_le hlast) off (f := Job.awaitSelection ∘ Job.advance ∘ f)
      (fun y => ?_) ?_ ?_ hready hmarker (hconv.trans hi) ?_ fun h d => rfl
    · simp [awaitSelection_id, Job.advance, hf]
    · have hks : k.state = .running := by rw [off.counts]; exact hr
      simp [hfj, Job.advance, Job.awaitSelection, hks]
    · rw [hkid]
      refine (updateJob_jobs_updateJob u j.id (by intro; rfl)).trans ?_
      rw [updateJob_jobs_congr hjobs]
      exact updateJob_jobs_updateJob s j.id hf
    · refine leave_completion _ ?_ .job
      exact hcompl.trans hc

end State
end Sys2Proof.Machine

/-! PROOFS. Removals, the admission, and with them every event keep the laws of the scheduler; the
completion is open in its order between events. -/

namespace Sys2Proof.Machine
namespace State

variable {s t : State} {strict : Prop} {id : JobId} {j : Job}

/-! ### Settlements (R25, R59, R154) -/

/-- Once a share has been asked for it is not left open any more. -/
theorem foldl_takeShare_taken {x : CompletionShare} (hx : x ≠ .select) {l : List CompletionShare}
    (hl : x ∈ l) (hn : ∀ c ∈ s.completion, c.left.Nodup) :
    ∀ d ∈ (l.foldl State.takeShare s).completion, x ∉ d.left := by
  obtain ⟨a, b, rfl⟩ := List.append_of_mem hl
  intro d hd
  rw [List.foldl_append, List.foldl_cons] at hd
  obtain ⟨e, he, -, hsub⟩ := foldl_takeShare_left _ hd
  refine fun hj => absurd (hsub.subset hj) ?_
  obtain ⟨c, hc, -, -⟩ := takeShare_left _ he
  obtain ⟨c', hc', -, hsub'⟩ := foldl_takeShare_left _ hc
  rw [takeShare_completion _ hc] at he
  split at he
  · obtain ⟨-, hleft, -⟩ := without_some he
    rw [hleft]
    exact ((hn c' hc').sublist hsub').not_mem_erase
  · next hno =>
    cases he
    exact fun hj => hno ⟨hj, fun e => absurd e hx⟩

/-- A job that a removal is about to take has its share behind it. -/
theorem settle_job {l : List CompletionShare} (hl : .job ∈ l) (removed : JobId → Bool)
    (hn : ∀ c ∈ s.completion, c.left.Nodup) :
    ∀ d ∈ (s.settle l removed).completion, removed d.report.job = true → .job ∉ d.left := by
  intro d hd hr
  unfold settle at hd
  split at hd
  · next c hc =>
    split at hd
    · exact foldl_takeShare_taken (by decide) (List.mem_append_left _ hl) hn d hd
    · next hno =>
      cases hc.symm.trans hd
      exact absurd hr hno
  · next hc => rw [hc] at hd; cases hd

theorem Orderly.settled (hs : s.Orderly strict) {l : List CompletionShare} (hl : .job ∈ l)
    (removed : JobId → Bool) :
    ∀ d ∈ (s.settle l removed).completion, removed d.report.job = true → .job ∉ d.left :=
  settle_job hl removed fun c hc => (hs.whole c hc).order.nodup (by decide)

/-! ### Removals (R24, R27) -/

theorem clearJob_fields (s : State) (j : Job) :
    (s.clearJob j).jobs = s.jobs ∧ (s.clearJob j).ready = s.ready.put j.cls ((s.ready.get j.cls).erase j.id) ∧
    (s.clearJob j).marker = (if j.inPass then s.marker.put j.cls none else s.marker) ∧
    (s.clearJob j).converter = (if s.executes j.id then none else s.converter) ∧
    (s.clearJob j).completion = s.completion ∧
    ∀ h d, (s.clearJob j).account h d =
      if j.inPass ∧ h = j.id.owner ∧ d = j.cls then none else s.account h d := by
  have hx : (s.setReady j.cls ((s.ready.get j.cls).erase j.id)).executes j.id = s.executes j.id := rfl
  unfold clearJob
  dsimp only
  rw [hx]
  cases hp : j.inPass
  · cases s.executes j.id <;> exact ⟨rfl, rfl, rfl, rfl, rfl, fun _ _ => by simp; rfl⟩
  · have cleared {u : State} (hu : u.results = s.results) (h d) :
        ((u.setMarker j.cls none).setAccount j.id.owner j.cls none).account h d =
          if true = true ∧ h = j.id.owner ∧ d = j.cls then none else s.account h d := by
      rw [setAccount_account, ← account_congr (t := u.setMarker j.cls none) (s := s) hu]
      simp
    cases s.executes j.id
    · exact ⟨rfl, rfl, rfl, rfl, rfl, cleared rfl⟩
    · exact ⟨rfl, rfl, rfl, rfl, rfl, cleared rfl⟩

theorem setJobs_engaged (s : State) (l : List Job) : (s.setJobs l).engaged = s.engaged := rfl

/-- A job whose share is behind it is removed with all that names it (R24, R50, R79). -/
theorem Orderly.removeJob (hs : s.Orderly strict) (hj : s.findJob id = some j)
    (hrep : ∀ d ∈ s.completion, d.report.job = id → .job ∉ d.left) : (s.removeJob j).Orderly strict := by
  obtain rfl := s.findJob_id hj
  obtain ⟨cjobs, cready, cmarker, cconv, ccompl, cacct⟩ := s.clearJob_fields j
  rw [removeJob_eq]
  generalize s.clearJob j = u at *
  have found (x) : (u.setJobs (u.jobs.filter fun k => k.id != j.id)).findJob x =
      if x = j.id then none else s.findJob x := by
    refine (findJob_filter (s := u) (fun i => i != j.id) x).trans ?_
    rw [findJob_congr cjobs]
    by_cases h : x = j.id <;> simp [h]
  refine hs.released (gone := (· = j.id)) (nodup_filter (s := u) _ (cjobs ▸ hs.names)) (fun c => ?_)
    (fun x hx => (found x).trans (if_neg hx)) ?_ (fun c x hx => ?_) ?_ (fun c x => ?_) (fun x n => ?_)
    (fun h c n ha => ?_) fun d hd => ?_
  · rw [setJobs_ready, cready, PerClass.get_put]
    split
    · next e => exact e ▸ (hs.once _).erase _
    · exact hs.once c
  · rintro _ rfl k hk
    rw [found, if_pos rfl] at hk
    cases hk
  · rw [setJobs_ready, cready, PerClass.get_put]
    split
    · next e => exact e ▸ List.mem_erase_of_ne hx
    · rfl
  · rintro c _ rfl
    rw [found, if_pos rfl]
    refine iff_of_false (fun h => ?_) (by simp)
    rw [setJobs_ready, cready, PerClass.get_put] at h
    split at h
    · next e => exact (hs.once _).not_mem_erase h
    · next e => exact e ((hs.ready_iff hj).mp h).1.symm
  · rw [setJobs_marker, cmarker]
    cases hp : j.inPass with
    | false =>
      refine (and_iff_left_of_imp fun h => ?_).symm
      rintro rfl
      simpa [hp] using ((hs.marker_iff hj).mp h).2
    | true =>
      rw [if_pos rfl, PerClass.get_put]
      have hm : s.marker.get j.cls = some j.id := (hs.marker_iff hj).mpr ⟨rfl, hp⟩
      split
      · next e =>
        subst e
        exact iff_of_false (by simp) fun h => h.2 (Option.some.inj (h.1.symm.trans hm))
      · next hc =>
        refine (and_iff_left_of_imp fun h => ?_).symm
        rintro rfl
        exact hc ((hs.marker_iff hj).mp h).1.symm
  · cases hx : s.converter with
    | some ctx =>
      have he := engaged_of_converter hx
      by_cases hjob : ctx.job = j.id
      · have hconv : u.converter = none := by rw [cconv]; simp [executes, hx, hjob]
        have hw := reporting_of_not_waiting (hs.not_waiting_of_busy hx)
        rw [setJobs_engaged, engaged_of_idle hconv, reporting_congr ccompl, hw, he]
        refine iff_of_false (by simp) fun h => h.2 ?_
        rw [← hjob]
        exact (congrArg Prod.fst (Option.some.inj h.1)).symm
      · have hconv : u.converter = s.converter := by rw [cconv]; simp [executes, hx, hjob]
        rw [setJobs_engaged, engaged_congr hconv ccompl, he]
        refine (and_iff_left_of_imp fun h => ?_).symm
        rintro rfl
        exact hjob (congrArg Prod.fst (Option.some.inj h))
    | none =>
      have hconv : u.converter = s.converter := by rw [cconv]; simp [executes, hx]
      rw [setJobs_engaged, engaged_congr hconv ccompl, engaged_of_idle hx]
      refine (and_iff_left_of_imp fun h => ?_).symm
      rintro rfl
      obtain ⟨d, hd, hl, hid, -⟩ := reporting_eq_some.mp h
      exact hrep d hd hid hl
  · have ha : u.account h c = some n := ha
    rw [cacct] at ha
    split at ha
    · cases ha
    · next hne =>
      refine ⟨ha, ?_⟩
      rintro x hx rfl
      obtain ⟨y, k, hk, hm, ho, -⟩ := hs.account h c n ha
      cases hx.symm.trans hm
      obtain ⟨hc, hp⟩ := (hs.marker_iff hj).mp hx
      exact hne ⟨hp, ho.symm, hc.symm⟩
  · rw [setJobs_completion, ccompl] at hd
    rw [setJobs_converter, cconv]
    split
    · exact (hs.whole d hd).emptied
    · exact hs.whole d hd

/-- All jobs of a host are removed, whose shares are behind them (R27, R51, R89). -/
theorem Orderly.withoutHost (hs : s.Orderly strict) (h : HostId) (ended : SessionState)
    (hrep : ∀ d ∈ s.completion, d.report.job.owner = h → .job ∉ d.left) :
    (s.withoutHost h ended).Orderly strict := by
  have found (x) : (s.withoutHost h ended).findJob x = if x.owner = h then none else s.findJob x := by
    refine (findJob_filter (s := s) (fun i => i.owner != h) x).trans ?_
    by_cases e : x.owner = h <;> simp [e]
  have ready (c) : (s.withoutHost h ended).ready.get c = (s.ready.get c).filter fun i => i.owner != h :=
    PerClass.get_map ..
  have marker (c) : (s.withoutHost h ended).marker.get c = (s.marker.get c).filter fun i => i.owner != h :=
    PerClass.get_map ..
  have converter : (s.withoutHost h ended).converter = s.converter.filter fun ctx => ctx.job.owner != h := rfl
  have queue (g) : (s.withoutHost h ended).resultQueue g =
      if g = h then { discarded := (s.resultQueue h).discarded } else s.resultQueue g := Table.get_put ..
  refine hs.released (gone := (·.owner = h)) (nodup_filter (s := s) _ hs.names) (fun c => ?_)
    (fun x hx => (found x).trans (if_neg hx)) (fun x hx k hk => ?_) (fun c x hx => ?_) (fun c x hx => ?_)
    (fun c x => ?_) (fun x n => ?_) (fun g c n ha => ?_) fun d hd => ?_
  · rw [ready]; exact (hs.once c).filter _
  · rw [found, if_pos hx] at hk; cases hk
  · rw [ready, List.mem_filter]; simp [hx]
  · rw [ready, found, if_pos hx, List.mem_filter]; simp [hx]
  · rw [marker, Option.filter_eq_some_iff]; simp
  · cases hx : s.converter with
    | some ctx =>
      rw [engaged_of_converter hx]
      by_cases e : ctx.job.owner = h
      · have hconv : (s.withoutHost h ended).converter = none := by rw [converter, hx]; simp [e]
        rw [engaged_of_idle hconv, reporting_congr (t := s.withoutHost h ended) (s := s) rfl, reporting_of_not_waiting (hs.not_waiting_of_busy hx)]
        refine iff_of_false (by simp) fun hh => hh.2 ?_
        obtain ⟨rfl, -⟩ := Prod.mk.inj (Option.some.inj hh.1)
        exact e
      · have hconv : (s.withoutHost h ended).converter = some ctx := by rw [converter, hx]; simp [e]
        rw [engaged_of_converter hconv]
        refine (and_iff_left_of_imp fun hh => ?_).symm
        obtain ⟨rfl, -⟩ := Prod.mk.inj (Option.some.inj hh)
        exact e
    | none =>
      have hconv : (s.withoutHost h ended).converter = s.converter := by rw [converter, hx]; rfl
      rw [engaged_congr (s := s) hconv rfl, engaged_of_idle hx]
      refine (and_iff_left_of_imp fun hh => ?_).symm
      intro e
      obtain ⟨d, hd, hl, hid, -⟩ := reporting_eq_some.mp hh
      exact hrep d hd (hid ▸ e) hl
  · have ha : ((s.withoutHost h ended).resultQueue g).accounts.get c = some n := ha
    rw [queue] at ha
    split at ha
    · cases c <;> cases ha
    · next hg =>
      refine ⟨ha, fun x hx e => hg ?_⟩
      obtain ⟨y, k, hk, hm, ho, -⟩ := hs.account g c n ha
      cases hx.symm.trans hm
      exact ho.symm.trans e
  · have hd : d ∈ s.completion := hd
    rw [converter]
    refine (hs.whole d hd).change (fun hl => by rw [(hs.whole d hd).idle hl]; rfl) fun ctx hctx => ?_
    exact (hs.whole d hd).sampling ctx (Option.filter_eq_some_iff.mp hctx).1

/-! ### The admission (R14, R28) -/

theorem findJob_append (s : State) (j : Job) (x : JobId) :
    ({ s with jobs := s.jobs ++ [j] } : State).findJob x =
      (s.findJob x).or (if j.id = x then some j else none) := by
  unfold findJob
  rw [List.find?_append]
  by_cases h : j.id = x <;> simp [h]

theorem Orderly.appended (hs : s.Orderly strict) {h : HostId} (hj : j.AtAdmission h)
    (fresh : s.findJob j.id = none) (jobs : t.jobs = s.jobs ++ [j])
    (ready : t.ready = if j.state = .ready then s.ready.put j.cls (s.ready.get j.cls ++ [j.id]) else s.ready)
    (marker : t.marker = s.marker) (converter : t.converter = s.converter)
    (completion : t.completion = s.completion) (account : ∀ h c, t.account h c = s.account h c) :
    t.Orderly strict := by
  have at_id := hs.at_name j.id
  rw [fresh] at at_id
  have hready (c) : j.id ∉ s.ready.get c := by simpa using (at_id.ready c).not
  have hmarker (c) : s.marker.get c ≠ some j.id := by simpa using (at_id.marker c).not
  have hengaged (n) : s.engaged ≠ some (j.id, n) := by simpa using (at_id.engaged n).not
  have found (x) : t.findJob x = (s.findJob x).or (if j.id = x then some j else none) :=
    (findJob_congr jobs x).trans (s.findJob_append j x)
  have hfound : t.findJob j.id = some j := by rw [found, fresh]; simp
  have hpass : ¬ j.inPass := by
    have := hj.state
    rw [Job.inPass_iff]
    split at this <;> simp [this]
  have hrun : j.state ≠ .running ∧ j.state ≠ .suspended := by
    rwa [Job.inPass_iff, not_or] at hpass
  refine hs.turn (id := j.id) ⟨fun hn => ?_, fun x hx => ?_, fun c hn => ?_, fun c x hx => ?_, fun c x _ => ?_,
    fun x n _ => ?_⟩ ?_ (fun h c n ha => ?_) ?_ fun st k hk b kb hb hkb => ?_
  · rw [jobs, List.map_append, List.nodup_append]
    refine ⟨hn, List.nodup_singleton _, ?_⟩
    rintro a ha b hb rfl
    rw [List.mem_singleton.mp hb] at ha
    exact s.findJob_none.mp fresh ha
  · rw [found, if_neg (Ne.symm hx), Option.or_none]
  · rw [ready]
    split
    · exact nodup_put_append (hready _) c hn
    · exact hn
  · rw [ready]
    split
    · exact mem_put_append.trans (by simp [hx])
    · rfl
  · rw [marker]
  · rw [engaged_congr converter completion]
  · rw [hfound]
    refine .of_some hj.tag ⟨hj.entries, ?_, ?_, ?_, ?_, ?_, fun hl => ?_, ?_⟩ (fun c => ?_) (fun c => ?_) fun n => ?_
    · rw [hj.cursor]; exact Nat.lt_of_lt_of_le Nat.zero_lt_one hj.entries.1
    · rw [hj.passesDone]; decide
    · rw [hj.overruns]; decide
    · rw [hj.produced]; exact Nat.zero_le _
    · rw [hj.discarded]; decide
    · rw [hj.passesDone]; exact Nat.pos_of_ne_zero hl
    · rw [hj.pending]; simp
    · rw [ready]
      split
      · next e => exact mem_put_append.trans (by simp [hready c, e, eq_comm])
      · next e => exact iff_of_false (hready c) fun h => e h.2
    · rw [marker]; exact iff_of_false (hmarker c) fun h => hpass h.2
    · rw [engaged_congr converter completion]; exact iff_of_false (hengaged n) fun h => hrun.1 h.1
  · rw [account] at ha
    exact .inl ⟨ha, hmarker c⟩
  · rw [completion, converter]; exact hs.whole
  · rw [hfound] at hk
    cases hk
    exact ⟨fun h => absurd h hrun.1, fun h => absurd h hrun.2⟩

/-! ### Every event (R57) -/

/-- A thing other than the Job Table's share, taken. -/
theorem Orderly.leave (hs : s.Orderly strict) {c : Completion} {x : CompletionShare}
    (hc : s.completion = some c) (hx : x ≠ .job) (hsel : x = .select → .job ∉ c.left) :
    (s.leave x).Orderly strict := by
  have hwhole := hs.whole c hc
  have hleft := leave_completion s hc x
  have mem {y} (d) (hd : c.without x = some d) (hy : y ≠ x) : y ∈ d.left ↔ y ∈ c.left := by
    rw [(without_some hd).2.1, List.mem_erase_of_ne hy]
  have reporting : (s.leave x).reporting = s.reporting := by
    unfold State.reporting
    rw [hleft, hc]
    cases hd : c.without x with
    | none =>
      have hno : .job ∉ c.left := by
        intro hj
        unfold Completion.without at hd
        split at hd
        · next he =>
          have := (List.mem_erase_of_ne hx.symm).mpr hj
          rw [he] at this
          cases this
        · cases hd
      simp [hno]
    | some d => simp [mem d hd hx.symm, (without_some hd).1]
  have engaged : (s.leave x).engaged = s.engaged := by
    unfold State.engaged
    rw [reporting]
    rfl
  refine ⟨hs.names, hs.once, fun id => ?_, hs.account, fun d hd => ?_, hs.rank⟩
  · obtain ⟨h1, h2, h3, h4⟩ := hs.at_name id
    exact ⟨h1, h2, h3, by rw [engaged]; exact h4⟩
  · rw [hleft] at hd
    obtain ⟨-, hl, hne⟩ := without_some hd
    refine ⟨hne, (hl ▸ List.erase_sublist).trans hwhole.order, fun hj => ?_, fun hj => ?_, hwhole.sampling⟩
    · have hjc := (mem d hd hx.symm).mp hj
      exact (mem d hd fun e => hsel e.symm hjc).mpr (hwhole.selects hjc)
    · exact hwhole.idle ((mem d hd hx.symm).mp hj)

theorem engineKept_orderly : EngineKept (Orderly strict) where
  post _ h kind subject detail hs := hs.post h kind subject detail
  arrival _ id hs := hs.arrival id
  select _ hs := hs.select
  preempt _ _ hs := hs.preempt
  generator _ _ _ _ hs := hs.congr rfl rfl rfl rfl rfl fun _ _ => rfl
  watchState _ _ _ _ hs := hs.congr rfl rfl rfl rfl rfl fun _ _ => rfl
  jobTaken _ _ hc hl hs := hs.jobTaken hc hl
  left _ _ _ hc _ hx hsel hs := hs.leave hc hx hsel

/-- A queue whose accounts stay. -/
theorem Orderly.setResultQueue (hs : s.Orderly strict) (h : HostId) {q : ResultQueue}
    (hq : q.accounts = (s.resultQueue h).accounts) : (s.setResultQueue h q).Orderly strict := by
  refine hs.congr rfl rfl rfl rfl rfl fun g c => ?_
  unfold State.account
  rw [setResultQueue_resultQueue]
  split
  · next e => rw [e, hq]
  · rfl

theorem eventKept_orderly : EventKept (Orderly strict) where
  toEngineKept := engineKept_orderly
  port _ _ _ hs := hs.congr rfl rfl rfl rfl rfl fun _ _ => rfl
  renewed _ _ _ hs := hs.congr rfl rfl rfl rfl rfl fun _ _ => rfl
  opened s h o _ hs := (hs.congr (t := s.setSession h ⟨.attached, o, o.leaseTicks⟩) rfl rfl rfl rfl rfl
    fun _ _ => rfl).setResultQueue h rfl
  stripped s h ended _ hs hv := hv.withoutHost h ended fun d hd hr =>
    hs.settled (by decide) _ d hd (by simpa using hr)
  options s h o _ hs := (hs.congr (t := s.setSession h ⟨(s.session h).state, o, leaseOf o.leaseLength⟩)
    rfl rfl rfl rfl rfl fun _ _ => rfl).setResultQueue h rfl
  appended s h j _ hj fresh hs := by
    split
    · next hr => exact hs.appended hj fresh rfl (if_pos hr).symm rfl rfl rfl fun _ _ => rfl
    · next hr => exact hs.appended hj fresh rfl (if_neg hr).symm rfl rfl rfl fun _ _ => rfl
  removed s id j hs hv hj := hv.removeJob hj fun d hd hr => hs.settled (by decide) _ d hd (by simpa using hr)
  channel _ _ _ _ hs := hs.congr rfl rfl rfl rfl rfl fun _ _ => rfl
  claimed _ _ _ _ hs := hs.congr rfl rfl rfl rfl rfl fun _ _ => rfl
  watch _ _ _ _ hs := hs.congr rfl rfl rfl rfl rfl fun _ _ => rfl
  headLeft _ h _ _ _ hs := hs.setResultQueue h rfl
  noticeLeft _ _ hs := hs.congr rfl rfl rfl rfl rfl fun _ _ => rfl
  discardedLowered _ h _ hs := hs.setResultQueue h rfl
  staleReached s h hs := by
    unfold reachStale
    split
    · exact hs.setResultQueue h rfl
    · exact hs
  edge _ _ hs := hs.congr rfl rfl rfl rfl rfl fun _ _ => rfl
  sampled s ctx input hc hx hs := by
    have engaged : (s.setConverter (some { ctx with phase := .converting s.timebase input })).engaged =
        s.engaged := by
      rw [engaged_of_converter hx]; rfl
    refine ⟨hs.names, hs.once, fun id => ?_, hs.account, fun d hd => ?_, hs.rank⟩
    · obtain ⟨h1, h2, h3, h4⟩ := hs.at_name id
      exact ⟨h1, h2, h3, by rw [engaged]; exact h4⟩
    · rw [setConverter_completion, hc] at hd
      cases hd

/-- Between events the selection is left open only with the Job Table's share (R57). -/
def Balanced (s : State) : Prop := ∀ c ∈ s.completion, .select ∈ c.left → .job ∈ c.left

/-- Several shares end with the selection, where the Job Table's share no longer keeps it waiting. -/
theorem takeShares_balanced (hn : ∀ c ∈ s.completion, c.left.Nodup) (l : List CompletionShare) :
    (s.takeShares l).Balanced := by
  intro d hd hsel
  unfold State.takeShares at hd
  rw [List.foldl_append] at hd
  cases hc : (l.foldl State.takeShare s).completion with
  | none =>
    have := takeShare_none _ hc .select
    rw [List.foldl_cons, List.foldl_nil, this, hc] at hd
    cases hd
  | some c =>
    obtain ⟨c', hc', -, hsub⟩ := foldl_takeShare_left _ hc
    rw [List.foldl_cons, List.foldl_nil, Option.mem_def, takeShare_completion _ hc] at hd
    split at hd
    · obtain ⟨-, hl, -⟩ := without_some hd
      rw [hl] at hsel
      exact absurd hsel ((hn c' hc').sublist hsub).not_mem_erase
    · next hno =>
      cases hd
      by_contra hj
      exact hno ⟨hsel, fun _ => hj⟩

theorem settle_cases (s : State) (l : List CompletionShare) (removed : JobId → Bool) :
    s.settle l removed = s ∨ s.settle l removed = s.takeShares l := by
  unfold settle
  split
  · split
    · exact .inr rfl
    · exact .inl rfl
  · exact .inl rfl

end State

/-- An event leaves the open completion, or takes several shares of it. -/
theorem Event.completion {s t : State} (e : Event s t) :
    t.completion = s.completion ∨ ∃ l, t.completion = (s.takeShares l).completion := by
  have settled (l removed) {u : State} (hu : u.completion = (s.settle l removed).completion) :
      u.completion = s.completion ∨ ∃ l, u.completion = (s.takeShares l).completion := by
    rcases s.settle_cases l removed with e | e
    · rw [e] at hu; exact .inl hu
    · rw [e] at hu; exact .inr ⟨l, hu⟩
  cases e with
  | port h p _ => exact .inl rfl
  | renewed h _ => exact .inl rfl
  | opened h o _ => exact .inl rfl
  | torn h ended _ _ => exact settled _ _ (s.teardown_frame h ended).completion
  | optionsReplaced h o _ => exact .inl (s.replaceOptions_frame h o).completion
  | admission h j _ _ _ _ => exact .inl (s.admitJob_frame j).completion
  | withdrawn id =>
    refine settled [.job] (· == id) ?_
    unfold State.withdrawal
    dsimp only
    split
    · rfl
    · next j _ => exact (State.withdraw_share _ j).completion
  | channel c x _ => exact .inl rfl
  | generator g x _ => exact .inl rfl
  | started g _ _ => exact .inl (s.startGenerator_frame g).completion
  | expired g _ => exact .inl ((s.fireGenerator_frame g).trans (State.schedule_engine _)).completion
  | watch w x _ => exact .inl rfl
  | recordLeft h =>
    cases hq : (s.resultQueue h).records with
    | nil => rw [s.recordLeaves_nil hq]; exact .inl rfl
    | cons r rest =>
      rw [s.recordLeaves_eq hq]
      exact .inl (State.schedule_engine (s.withoutHead h rest)).completion
  | noticeLeft h => exact .inl rfl
  | discardedLowered h n => exact .inl rfl
  | staleReached h => rw [s.reachStale_rest h]; exact .inl rfl
  | edge p level order =>
    refine .inl (State.takeEdge_keeps (P := fun u => u.completion = s.completion) _ order (fun u g hu => ?_)
      (fun u hu => (u.deliver_engine _).completion.trans hu) (fun u hu => u.schedule_engine.completion.trans hu) rfl)
    rcases u.generatorEdge_frame p level g with e | ⟨-, f⟩
    · rw [e]; exact hu
    · exact f.completion.trans hu
  | sampled ctx input _ _ => exact .inl rfl
  | shares l => exact .inr ⟨l, rfl⟩

namespace State

variable {s t : State} {strict : Prop}

/-- The laws of the scheduler between events. -/
def Scheduled (strict : Prop) (s : State) : Prop := s.Orderly strict ∧ s.Balanced

theorem scheduled_iff (s : State) : s.Scheduled False ↔ s.schedulerLaws := s.schedulerLaws_iff.symm

theorem Scheduled.event (e : Event s t) (hs : s.Scheduled strict) : t.Scheduled strict := by
  refine ⟨eventKept_orderly.event e hs.1, ?_⟩
  rcases e.completion with h | ⟨l, h⟩
  · unfold Balanced; rw [h]; exact hs.2
  · have := State.takeShares_balanced (fun c hc => (hs.1.whole c hc).order.nodup (by decide)) l
    unfold Balanced at this ⊢
    rwa [h]

theorem Scheduled.tick (hs : s.Scheduled strict) : s.tick.Scheduled strict :=
  ⟨hs.1.congr rfl rfl rfl rfl rfl fun _ _ => rfl, hs.2⟩

/-- The converter hands on a report: the part stays at work for the same entry (R57). -/
theorem Scheduled.handOn (hs : s.Scheduled strict) : s.handOn.Scheduled strict := by
  rcases s.handOn_cases with e | ⟨ctx, ts, held, hc, hx, -, e⟩
  · rw [e]; exact hs
  · obtain ⟨hs, -⟩ := hs
    rw [e, ((s.setConverter none).channelShare_channels _).1]
    generalize ((s.setConverter none).channelShare (ctx.report ts held)).channels = chs
    let t : State := ({ s.setConverter none with channels := chs } : State).setCompletion
      (some ⟨ctx.report ts held, allShares⟩)
    have engaged : t.engaged = s.engaged := by rw [engaged_of_converter hx]; rfl
    refine ⟨⟨hs.names, hs.once, fun id => ?_, hs.account, fun d hd => ?_, hs.rank⟩, fun d hd => ?_⟩
    · obtain ⟨h1, h2, h3, h4⟩ := hs.at_name id
      exact ⟨h1, h2, h3, engaged ▸ h4⟩
    · cases hd
      exact ⟨List.cons_ne_nil _ _, .refl _, fun _ => by simp [allShares], fun _ => rfl, fun y hy => by cases hy⟩
    · cases hd
      exact fun _ => by simp [allShares]

theorem afterReset_scheduled (straps : Straps) : (State.afterReset straps).Scheduled strict := by
  have account (h c) : (State.afterReset straps).account h c = none := by
    have : (State.afterReset straps).resultQueue h = {} := Table.get_make ..
    unfold account
    rw [this]
    cases c <;> rfl
  refine ⟨⟨List.nodup_nil, fun c => by cases c <;> exact List.nodup_nil, fun id => ⟨?_, fun c => ?_, fun c => ?_,
    fun n => ?_⟩, fun h c n ha => ?_, fun d hd => ?_, ?_⟩, fun d hd => ?_⟩
  · rintro j ⟨⟩
  · refine iff_of_false (fun h => by cases c <;> cases h) ?_
    rintro ⟨j, ⟨⟩, -⟩
  · refine iff_of_false (fun h => by cases c <;> cases h) ?_
    rintro ⟨j, ⟨⟩, -⟩
  · refine iff_of_false (fun h => by cases h) ?_
    rintro ⟨j, ⟨⟩, -⟩
  · rw [account] at ha; cases ha
  · cases hd
  · rintro - a b j k ⟨⟩
  · cases hd

end State

/-- Settles O9: each operation on a job keeps the laws at its name, and leaves every other name. -/
theorem everyStepKeepsTheScheduler : Obligations.EveryStepKeepsTheScheduler := by
  intro s t hs h
  rw [← State.scheduled_iff] at hs ⊢
  refine step_keeps (fun _ _ => State.Scheduled.event) (fun _ => State.Scheduled.tick)
    (fun _ => State.Scheduled.handOn) (fun s straps _ => ?_) (fun _ _ hs => ?_) h hs
  · have := State.afterReset_scheduled (strict := False) straps
    exact ⟨this.1.congr rfl rfl rfl rfl rfl fun _ _ => rfl, this.2⟩
  · exact ⟨hs.1.congr rfl rfl rfl rfl rfl fun _ _ => rfl, hs.2⟩

end Sys2Proof.Machine

/-! PROOFS. Nothing that could be served is left waiting (sections 2.4, 2.7, 2.8, 3.4): a scheduling
occasion leaves nothing to serve, and what makes none lets no job become eligible. -/

namespace Sys2Proof.Machine
namespace State

variable {s t : State} {strict : Prop} {id : JobId} {j : Job}

/-- An idle converter leaves no class that qualifies, but where a report waits for the Job Table's share;
and no URGENT job waits behind a lower class's conversion (R35, R44). -/
def Served (s : State) : Prop :=
  (s.converter = none → s.selectionWaits = false → s.chosenClass = none) ∧ s.urgentWaits = false

/-! ### Eligible jobs (R32) -/

/-- An eligible job of a class, found in the table by its name. -/
def EligibleIn (s : State) (c : JobClass) (j : Job) : Prop :=
  s.findJob j.id = some j ∧ j.cls = c ∧ s.eligible j = true

theorem Orderly.mem_eligibleJobs (hs : s.Orderly strict) {c : JobClass} :
    j ∈ s.eligibleJobs c ↔ s.EligibleIn c j := by
  constructor
  · intro h
    obtain ⟨hr, hj, he⟩ := s.mem_eligibleJobs h
    exact ⟨hj, ((hs.ready_iff hj).mp hr).1, he⟩
  · rintro ⟨hj, hc, he⟩
    have hready : j.state = .ready := by
      have he := he
      unfold eligible at he
      rw [Bool.and_eq_true, beq_iff_eq] at he
      exact he.1
    unfold eligibleJobs
    rw [List.mem_filter, List.mem_filterMap]
    exact ⟨⟨j.id, (hs.ready_iff hj).mpr ⟨hc, hready⟩, hj⟩, he⟩

theorem EligibleIn.ready {c : JobClass} (h : s.EligibleIn c j) : j.state = .ready := by
  obtain ⟨-, -, he⟩ := h
  unfold eligible at he
  rw [Bool.and_eq_true, beq_iff_eq] at he
  exact he.1

/-- With fewer free places and the same full policy no more jobs are eligible. -/
theorem eligible_mono (policy : (t.session j.id.owner).options.fullPolicy = .discard →
      (s.session j.id.owner).options.fullPolicy = .discard)
    (places : (t.resultQueue j.id.owner).freePlaces ≤ (s.resultQueue j.id.owner).freePlaces)
    (h : t.eligible j = true) : s.eligible j = true := by
  unfold eligible at h ⊢
  simp only [Bool.and_eq_true, Bool.or_eq_true, beq_iff_eq, decide_eq_true_eq] at h ⊢
  obtain ⟨hr, (hd | hp) | hf⟩ := h
  · exact ⟨hr, .inl (.inl hd)⟩
  · exact ⟨hr, .inl (.inr (policy hp))⟩
  · exact ⟨hr, .inr (hf.trans places)⟩

theorem Orderly.qualifies_iff (hs : s.Orderly strict) {c : JobClass} :
    s.qualifies c = true ↔ (∃ id, s.marker.get c = some id) ∨ ∃ j, s.EligibleIn c j := by
  unfold qualifies
  simp only [Bool.or_eq_true, Option.isSome_iff_exists, Bool.not_eq_true', List.isEmpty_eq_false_iff_exists_mem,
    hs.mem_eligibleJobs]

theorem Orderly.urgentWaits_iff (hs : s.Orderly strict) :
    s.urgentWaits = true ↔
      (∃ ctx ∈ s.converter, ∃ j, s.findJob ctx.job = some j ∧ j.cls ≠ .urgent) ∧
        ∃ j, s.EligibleIn .urgent j := by
  unfold urgentWaits
  cases hx : s.converter with
  | none => simp
  | some ctx =>
    cases hj : s.findJob ctx.job with
    | none => simp [hj]
    | some j => simp [hj, List.eq_nil_iff_forall_not_mem, hs.mem_eligibleJobs]

/-- What lets no job become eligible, takes up no conversion and sets no marker leaves nothing waiting
that was not. -/
theorem Served.shrink (hs : s.Served) (so : s.Orderly strict) (ht : t.Orderly strict)
    (converter : t.converter.map Context.job = s.converter.map Context.job)
    (waits : t.selectionWaits = s.selectionWaits)
    (marker : ∀ c id, t.marker.get c = some id → s.marker.get c = some id)
    (cls : ∀ ctx ∈ s.converter, ∀ j, t.findJob ctx.job = some j →
      ∃ k, s.findJob ctx.job = some k ∧ k.cls = j.cls)
    (eligible : ∀ c j, t.EligibleIn c j → s.EligibleIn c j) : t.Served := by
  refine ⟨fun hi hw => ?_, ?_⟩
  · have hi : s.converter = none := by rwa [hi, Option.map_none, eq_comm, Option.map_eq_none_iff] at converter
    have hnone := chosenClass_none s |>.mp (hs.1 hi (waits ▸ hw))
    rw [chosenClass_none]
    intro c
    rw [← Bool.not_eq_true, ht.qualifies_iff]
    have hno := hnone c
    rw [← Bool.not_eq_true, so.qualifies_iff] at hno
    exact fun h => hno (h.imp (fun ⟨id, h⟩ => ⟨id, marker c id h⟩) fun ⟨j, h⟩ => ⟨j, eligible c j h⟩)
  · rw [← Bool.not_eq_true, ht.urgentWaits_iff]
    rintro ⟨⟨ctx, hx, j, hj, hne⟩, k, hk⟩
    obtain ⟨ctx', hx', hjob⟩ : ∃ ctx' ∈ s.converter, ctx'.job = ctx.job := by
      rw [Option.mem_def.mp hx, Option.map_some, eq_comm, Option.map_eq_some_iff] at converter
      exact converter
    obtain ⟨l, hl, hcls⟩ := cls ctx' hx' j (hjob ▸ hj)
    have := hs.2
    rw [← Bool.not_eq_true, so.urgentWaits_iff] at this
    exact this ⟨⟨ctx', hx', l, hl, hcls ▸ hne⟩, k, eligible _ k hk⟩

/-- What changes neither table nor lists nor the room of a queue leaves what it finds. -/
theorem Served.congr (hs : s.Served) (so : s.Orderly strict) (ht : t.Orderly strict)
    (jobs : t.jobs = s.jobs) (marker : t.marker = s.marker)
    (converter : t.converter = s.converter) (completion : t.completion = s.completion)
    (policy : ∀ h, (t.session h).options.fullPolicy = (s.session h).options.fullPolicy)
    (places : ∀ h, (t.resultQueue h).freePlaces = (s.resultQueue h).freePlaces) : t.Served := by
  refine hs.shrink so ht (by rw [converter]) (by unfold selectionWaits; rw [completion])
    (by rw [marker]; exact fun _ _ h => h) (fun ctx _ j hj => ⟨j, findJob_congr jobs _ ▸ hj, rfl⟩) ?_
  rintro c j ⟨hj, hc, he⟩
  exact ⟨findJob_congr jobs _ ▸ hj, hc, eligible_mono (by rw [policy]; exact id) (places _).le he⟩

/-! ### Selections (R35, R37, R44) -/

/-- The rotation reaches every host, so that an eligible job of a class means a chosen one (R39). -/
theorem chosenJob_of_eligible {c : JobClass} (h : s.eligibleJobs c ≠ []) : ∃ j, s.chosenJob c = some j := by
  obtain ⟨j, hj⟩ := List.exists_mem_of_ne_nil _ h
  have hmem : j.id.owner ∈ rotationOrder (s.rotation.get c) := by
    generalize j.id.owner = h
    generalize s.rotation.get c = p
    revert h p
    decide
  rw [← Option.isSome_iff_exists]
  unfold chosenJob
  rw [List.findSome?_isSome_iff]
  refine ⟨_, hmem, ?_⟩
  rw [List.find?_isSome]
  exact ⟨j, hj, by simp⟩

theorem reserved_mono {q r : ResultQueue} (h : ∀ c, (q.accounts.get c).getD 0 ≤ (r.accounts.get c).getD 0) :
    q.reserved ≤ r.reserved :=
  Nat.add_le_add (Nat.add_le_add (h .urgent) (h .normal)) (h .background)

/-- A class that is served has its job's conversion under way; every other job stays as it was, and no
queue has more room (R38, R40, R41). -/
theorem Orderly.serve_serves (hs : s.Orderly strict) {c : JobClass} (hi : s.converter = none)
    (hw : s.selectionWaits = false) (hc : s.chosenClass = some c) :
    ∃ ctx k, (s.serve c).converter = some ctx ∧ (s.serve c).findJob ctx.job = some k ∧ k.cls = c ∧
      k.state = .running ∧ (∀ x, x ≠ ctx.job → (s.serve c).findJob x = s.findJob x) ∧
      ∀ h, ((s.serve c).resultQueue h).freePlaces ≤ (s.resultQueue h).freePlaces := by
  have hy := hs.yield_idle (engaged_none hi hw) c
  have frame := s.serve_engine c
  rcases s.serve_cases c with ⟨id, hm, e⟩ | ⟨j, hm, hch, e⟩ | ⟨hm, hch, -⟩
  · obtain ⟨j, hj, hcls, -⟩ := hs.found_of_marker hm
    have hf := findJob_update (s := s) (f := fun j => { j with state := .running }) (by intro; rfl) rfl hj
    obtain ⟨ctx, hjob, -, -, e'⟩ := startConversion_starts hf (hs.sound hj).cursor
    have e : s.serve c = (s.updateJob id fun j => { j with state := .running }).setConverter (some ctx) := by
      rw [e, hy]; exact e'
    subst hjob
    rw [e]
    exact ⟨ctx, _, rfl, hf, hcls, rfl, fun x hx => s.findJob_updateJob_ne (by intro; rfl) hx,
      fun h => Nat.le_refl _⟩
  · obtain ⟨hready, hj, -⟩ := s.mem_eligibleJobs (s.chosenJob_mem hch)
    obtain ⟨rfl, -⟩ := (hs.ready_iff hj).mp hready
    obtain ⟨ctx, hjob, -, -, hx, hjobs, -, -, -, hacct⟩ := grant_fields hj (hs.sound hj).listed.1
    rw [hy] at e
    refine ⟨ctx, j.granted, e ▸ hx, ?_, rfl, rfl, fun x hne => ?_, fun h => ?_⟩
    · rw [e, hjob]; exact findJob_update (by intro; rfl) hjobs hj
    · rw [e, findJob_congr hjobs]; exact s.findJob_updateJob_ne (by intro; rfl) (hjob ▸ hne)
    · have hres : (s.resultQueue h).reserved ≤ ((s.serve j.cls).resultQueue h).reserved := by
        refine reserved_mono fun d => ?_
        rcases hacct h d with hd | ⟨rfl, rfl, -⟩
        · rw [e]; exact (congrArg (Option.getD · 0) hd).ge
        · have : s.account j.id.owner j.cls = none := by
            rw [Option.eq_none_iff_forall_ne_some]
            intro n hn
            obtain ⟨_, _, -, hx, -⟩ := hs.account _ _ n hn
            rw [hm] at hx
            cases hx
          rw [show (s.resultQueue j.id.owner).accounts.get j.cls = none from this]
          exact Nat.zero_le _
      unfold ResultQueue.freePlaces
      rw [frame.records]
      exact Nat.sub_le_sub_left hres _
  · have hq := hs.qualifies_iff.mp (s.chosenClass_some hc)
    rcases hq with ⟨id, h⟩ | ⟨j, h⟩
    · rw [hm] at h; cases h
    · obtain ⟨k, hk⟩ := chosenJob_of_eligible (List.ne_nil_of_mem (hs.mem_eligibleJobs.mpr h))
      rw [hch] at hk
      cases hk

/-- A selection leaves nothing to serve, where no URGENT job waited behind a conversion (R35). -/
theorem Orderly.select_served (hs : s.Orderly strict) (hu : s.urgentWaits = false) : s.select.Served := by
  cases hi : s.converter with
  | some ctx =>
    rw [s.select_busy hi]
    exact ⟨fun h => (by rw [hi] at h; cases h), hu⟩
  | none =>
    cases hw : s.selectionWaits with
    | true =>
      rw [s.select_waits hw]
      exact ⟨fun _ h => (by rw [hw] at h; cases h), hu⟩
    | false =>
      cases hc : s.chosenClass with
      | none =>
        rw [s.select_none hc]
        exact ⟨fun _ _ => hc, hu⟩
      | some c =>
        rw [s.select_serves hw hi hc]
        have ht := hs.serve hi hw hc
        obtain ⟨ctx, k, hx, hk, rfl, hr, others, places⟩ := hs.serve_serves hi hw hc
        have frame := s.serve_engine k.cls
        refine ⟨fun h => (by rw [hx] at h; cases h), ?_⟩
        rw [← Bool.not_eq_true, ht.urgentWaits_iff]
        rintro ⟨⟨ctx', hx', l, hl, hne⟩, j, hj⟩
        cases hx.symm.trans hx'
        cases hk.symm.trans hl
        have hqual : s.qualifies .urgent = true := by
          refine hs.qualifies_iff.mpr (.inr ⟨j, ?_, hj.2.1, ?_⟩)
          · have hjne : j.id ≠ ctx.job := by
              intro e
              have h1 := hj.1
              rw [e, hk] at h1
              cases h1
              have := hj.ready
              rw [hr] at this
              cases this
            rw [← others _ hjne]
            exact hj.1
          · exact eligible_mono (by rw [frame.session]; exact id) (places _) hj.2.2
        have := chosenClass_highest hc hqual
        refine hne ?_
        cases hcls : k.cls with
        | urgent => rfl
        | normal => rw [hcls] at this; cases this
        | background => rw [hcls] at this; cases this

/-- A scheduling occasion leaves nothing to serve (R35, R44). -/
theorem Orderly.schedule_served (hs : s.Orderly strict) : s.schedule.Served := by
  cases hu : s.urgentWaits with
  | false =>
    rw [s.schedule_quiet hu]
    exact hs.select_served hu
  | true =>
    rw [s.schedule_preempts hu]
    refine hs.preempt.select_served (s.preempt.urgentWaits_idle ?_)
    unfold State.preempt
    split
    · assumption
    · rfl

/-! ### The shares of a completion (R35, R57) -/

/-- The Job Table has its share and the selection is still to come. -/
def SelectionNext (s : State) : Prop := ∃ c ∈ s.completion, .select ∈ c.left ∧ .job ∉ c.left

theorem Orderly.takeShare_served (hs : s.Orderly strict) (x : CompletionShare)
    (h : s.Served ∨ s.SelectionNext) : (s.takeShare x).Served ∨ (s.takeShare x).SelectionNext := by
  have k := engineKept_orderly (strict := strict)
  rcases s.takeShare_cases x with e | ⟨c, hc, hx, ⟨rfl, e⟩ | ⟨rfl, e⟩ | ⟨rfl, hj, e⟩⟩
  · rw [e]; exact h
  · rw [e]
    exact .inl (k.watchShare _ (hs.leave hc (by decide) (by simp))).schedule_served
  · right
    have hwhole := hs.whole c hc
    have hcompl := s.takeShare_completion hc .job
    rw [if_pos ⟨hx, by simp⟩] at hcompl
    have hsel : .select ∈ c.left.erase .job := (List.mem_erase_of_ne (by decide)).mpr (hwhole.selects hx)
    have hd : c.without .job = some { c with left := c.left.erase .job } :=
      if_neg (List.ne_nil_of_mem hsel)
    exact ⟨_, hcompl.trans hd, hsel, (hwhole.order.nodup (by decide)).not_mem_erase⟩
  · rw [e]
    exact .inl (hs.leave hc (by decide) fun _ => hj).schedule_served

theorem Orderly.takeShares_served (hs : s.Orderly strict) (l : List CompletionShare) (h : s.Served) :
    (s.takeShares l).Served := by
  have along : ∀ l : List CompletionShare,
      (l.foldl State.takeShare s).Orderly strict ∧
        ((l.foldl State.takeShare s).Served ∨ (l.foldl State.takeShare s).SelectionNext) := fun l =>
    State.foldl_keeps (P := fun u => u.Orderly strict ∧ (u.Served ∨ u.SelectionNext)) s
      (fun u x hu => ⟨engineKept_orderly.takeShare x hu.1, hu.1.takeShare_served x hu.2⟩) l ⟨hs, .inl h⟩
  obtain ⟨hu, hu'⟩ := along l
  have e : s.takeShares l = (l.foldl State.takeShare s).takeShare .select := by
    unfold State.takeShares
    rw [List.foldl_append]
    rfl
  rw [e]
  generalize l.foldl State.takeShare s = u at *
  rcases u.takeShare_cases .select with e | ⟨c, hc, -, ⟨hne, -⟩ | ⟨hne, -⟩ | ⟨-, hj, e⟩⟩
  · rcases hu' with hserved | ⟨c, hc, hsel, hj⟩
    · rw [e]; exact hserved
    · have hleft := u.takeShare_completion hc .select
      rw [e, if_pos ⟨hsel, fun _ => hj⟩, hc] at hleft
      have := (without_some hleft.symm).2.1
      rw [this] at hsel
      exact absurd hsel ((hu.whole c hc).order.nodup (by decide)).not_mem_erase
  · cases hne
  · cases hne
  · rw [e]
    exact (hu.leave hc (by decide) fun _ => hj).schedule_served

theorem Orderly.settle_served (hs : s.Orderly strict) (l : List CompletionShare) (removed : JobId → Bool)
    (h : s.Served) : (s.settle l removed).Served := by
  rcases s.settle_cases l removed with e | e <;> rw [e]
  · exact h
  · exact hs.takeShares_served l h

/-! ### Removals -/

/-- A conversion and its job outlive what is removed; nothing becomes eligible. -/
theorem Orderly.withoutHost_urgent {h : HostId} {ended : SessionState} (hs : s.Orderly strict)
    (ht : (s.withoutHost h ended).Orderly strict)
    (hu : s.urgentWaits = false) : (s.withoutHost h ended).urgentWaits = false := by
  have found {x k} (hk : (s.withoutHost h ended).findJob x = some k) : x.owner ≠ h ∧ s.findJob x = some k := by
    have e := findJob_filter (s := s) (fun i => i.owner != h) x
    have hk : (s.setJobs (s.jobs.filter fun k => k.id.owner != h)).findJob x = some k := hk
    rw [e] at hk
    split at hk
    · next ho => exact ⟨by simpa using ho, hk⟩
    · cases hk
  rw [← Bool.not_eq_true, hs.urgentWaits_iff] at hu
  rw [← Bool.not_eq_true, ht.urgentWaits_iff]
  rintro ⟨⟨ctx, hx, j, hj, hne⟩, k, hk, hc, he⟩
  have hx : ctx ∈ s.converter.filter fun ctx => ctx.job.owner != h := hx
  obtain ⟨ho, hk⟩ := found hk
  refine hu ⟨⟨ctx, (Option.filter_eq_some_iff.mp hx).1, j, (found hj).2, hne⟩, k, hk, hc, ?_⟩
  have queue : (s.withoutHost h ended).resultQueue k.id.owner = s.resultQueue k.id.owner :=
    Table.get_put_ne _ _ ho
  have session : (s.withoutHost h ended).session k.id.owner = s.session k.id.owner :=
    Table.get_put_ne _ _ ho
  exact eligible_mono (by rw [session]; exact id) (by rw [queue]) he

/-- A job that is in no pass goes: nothing becomes eligible by it (R24). -/
theorem Served.removeJob (h : s.Served) (hs : s.Orderly strict) (hj : s.findJob j.id = some j)
    (ht : (s.removeJob j).Orderly strict) (hp : j.inPass = false) : (s.removeJob j).Served := by
  obtain ⟨cjobs, -, cmarker, cconv, ccompl, cacct⟩ := s.clearJob_fields j
  have frame := s.clearJob_engine j
  have hx : s.executes j.id = false := by
    rw [← Bool.not_eq_true]
    intro he
    unfold executes at he
    split at he
    · next ctx hctx =>
      have hid : ctx.job = j.id := by simpa using he
      have := ((hs.engaged_iff hj).mp (hid ▸ engaged_of_converter hctx)).1
      simp [Job.inPass, this] at hp
    · cases he
  rw [hp] at cmarker cacct
  rw [hx] at cconv
  rw [removeJob_eq] at ht ⊢
  generalize s.clearJob j = u at *
  have found {x k} (hk : (u.setJobs (u.jobs.filter fun k => k.id != j.id)).findJob x = some k) :
      s.findJob x = some k := by
    rw [findJob_filter (s := u) (fun i => i != j.id) x] at hk
    split at hk
    · rwa [findJob_congr cjobs] at hk
    · cases hk
  refine h.shrink hs ht ?_ ?_ ?_ (fun ctx _ k hk => ⟨k, found hk, rfl⟩) ?_
  · rw [setJobs_converter, cconv]; rfl
  · unfold selectionWaits; rw [setJobs_completion, ccompl]
  · rw [setJobs_marker, cmarker]; exact fun _ _ h => h
  · rintro c k ⟨hk, hc, he⟩
    refine ⟨found hk, hc, eligible_mono (s := s) ?_ ?_ he⟩
    · rw [setJobs_session, frame.session]; exact id
    · rw [setJobs_resultQueue]
      have hacct : (u.resultQueue k.id.owner).accounts = (s.resultQueue k.id.owner).accounts :=
        PerClass.ext_get fun d => (cacct _ d).trans (if_neg (by simp))
      unfold ResultQueue.freePlaces ResultQueue.reserved
      rw [frame.records, hacct]

/-! ### Every event -/

theorem post_urgentWaits (s : State) (h : HostId) (kind : NoticeKind) (subject : Byte) (detail : Nat) :
    (s.post h kind subject detail).urgentWaits = s.urgentWaits := by
  unfold post
  split <;> rfl

theorem freePlaces_congr {q r : ResultQueue} (hr : q.records = r.records) (ha : q.accounts = r.accounts) :
    q.freePlaces = r.freePlaces := by
  unfold ResultQueue.freePlaces ResultQueue.reserved
  rw [hr, ha]

/-- New options that end no wait make no job eligible (R32, R146). -/
theorem Served.withOptions (h : s.Served) (hs : s.Orderly strict) {g : HostId} {o : HostOptions}
    (ht : (s.withOptions g o).Orderly strict)
    (hno : ¬ ((s.session g).options.fullPolicy = .wait ∧ o.fullPolicy = .discard)) :
    (s.withOptions g o).Served := by
  have session (i) : (s.withOptions g o).session i =
      if i = g then ⟨(s.session g).state, o, leaseOf o.leaseLength⟩ else s.session i := Table.get_put ..
  have places (i) : ((s.withOptions g o).resultQueue i).freePlaces = (s.resultQueue i).freePlaces := by
    have queue : (s.withOptions g o).resultQueue i = if i = g then { s.resultQueue g with
        staleMark := match (s.resultQueue g).records with
          | [] => false
          | r :: _ => decide (o.staleInterval ≠ 0 ∧
              o.staleInterval ≤ (s.timebase - r.timestamp).toNat) } else s.resultQueue i :=
      Table.get_put ..
    rw [queue]
    split
    · next e => rw [e]; exact freePlaces_congr rfl rfl
    · rfl
  refine h.shrink hs ht rfl rfl (fun _ _ h => h) (fun ctx _ k hk => ⟨k, hk, rfl⟩) ?_
  rintro c k ⟨hk, hc, he⟩
  refine ⟨hk, hc, eligible_mono (s := s) (fun hd => ?_) (places _).le he⟩
  rw [session] at hd
  split at hd
  · next e =>
    rw [e]
    cases hp : (s.session g).options.fullPolicy with
    | wait => exact absurd ⟨hp, hd⟩ hno
    | discard => rfl
  · exact hd

/-- A session that opens belongs to a host that owns no job (R140). -/
theorem Served.openSession (h : s.Served) (hs : s.Orderly strict) (hh : s.Held) {g : HostId}
    {o : HostOptions} (ha : ¬ s.isAttached g) (ht : (s.openSession g o).Orderly strict) :
    (s.openSession g o).Served := by
  refine h.shrink hs ht rfl rfl (fun _ _ h => h) (fun ctx _ k hk => ⟨k, hk, rfl⟩) ?_
  rintro c k ⟨hk, hc, he⟩
  have hk : s.findJob k.id = some k := hk
  have hne : k.id.owner ≠ g := fun e => ha (e ▸ hh.job _ (List.mem_map_of_mem (s.findJob_mem hk)))
  refine ⟨hk, hc, eligible_mono (s := s) ?_ ?_ he⟩
  · unfold State.openSession
    rw [setResultQueue_session, setSession_session_ne _ _ _ hne]
    exact id
  · unfold State.openSession
    rw [setResultQueue_resultQueue_ne _ _ _ hne, setSession_resultQueue]

/-- An admitted job that waits for its source is not eligible (R14). -/
theorem Served.appended (h : s.Served) (hs : s.Orderly strict) (hr : j.state ≠ .ready)
    (hrun : s.findJob j.id = none) (ht : ({ s with jobs := s.jobs ++ [j] } : State).Orderly strict) :
    ({ s with jobs := s.jobs ++ [j] } : State).Served := by
  have found {x k} (hx : x ≠ j.id) (hk : ({ s with jobs := s.jobs ++ [j] } : State).findJob x = some k) :
      s.findJob x = some k := by
    rwa [findJob_append, if_neg (Ne.symm hx), Option.or_none] at hk
  refine h.shrink hs ht rfl rfl (fun _ _ h => h) (fun ctx hx k hk => ⟨k, found ?_ hk, rfl⟩) ?_
  · intro e
    obtain ⟨l, hl, -⟩ := hs.found_of_engaged (engaged_of_converter hx)
    rw [e, hrun] at hl
    cases hl
  · rintro c k ⟨hk, hc, he⟩
    refine ⟨found ?_ hk, hc, he⟩
    intro e
    have : ({ s with jobs := s.jobs ++ [j] } : State).findJob j.id = some j := by
      rw [findJob_append, hrun]; simp
    rw [e, this] at hk
    cases hk
    exact hr (EligibleIn.ready ⟨this, hc, he⟩)

end State

/-- Every event leaves nothing waiting that could be served: it makes an occasion, or it lets no job
become eligible. -/
theorem Event.served {s t : State} {strict : Prop} (e : Event s t) (hs : s.Orderly strict) (hh : s.Held)
    (h : s.Served) : t.Served := by
  have ht := State.eventKept_orderly.event e hs
  have k := State.eventKept_orderly (strict := strict)
  have queued (g : HostId) (q : ResultQueue) (hr : q.records = (s.resultQueue g).records)
      (ha : q.accounts = (s.resultQueue g).accounts) (i) :
      ((s.setResultQueue g q).resultQueue i).freePlaces = (s.resultQueue i).freePlaces := by
    rw [State.setResultQueue_resultQueue]
    split
    · next e => rw [e]; exact State.freePlaces_congr hr ha
    · rfl
  cases e with
  | port g p _ => exact h.congr hs ht rfl rfl rfl rfl (fun _ => rfl) fun _ => rfl
  | renewed g _ =>
    refine h.congr hs ht rfl rfl rfl rfl (fun i => ?_) fun _ => rfl
    unfold State.restartLease
    rw [State.setSession_session]
    split
    · next e => rw [e]
    · rfl
  | opened g o ha => exact h.openSession hs hh ha ht
  | torn g ended ha he =>
    rw [State.teardown_eq]
    have hv := k.settle [.watch, .job] (fun id => id.owner == g) hs
    have hw := k.stripped s g ended he hs hv
    have hu := hv.withoutHost_urgent hw (hs.settle_served _ _ h).2
    refine (k.announceLeft g _ hw).select_served ?_
    exact State.foldl_keeps (P := fun u => u.urgentWaits = false) _
      (fun u i hu => (u.post_urgentWaits i _ _ _).trans hu) _ hu
  | optionsReplaced g o ha =>
    rw [State.replaceOptions_eq] at ht ⊢
    have ho := k.options s g o ha hs
    split
    · exact ho.schedule_served
    · next hno => exact h.withOptions hs ho hno
  | admission g j ha hj fresh _ =>
    have happ := k.appended s g j ha hj fresh hs
    unfold State.admitJob
    dsimp only
    split
    · next hr =>
      rw [if_pos hr] at happ
      exact happ.schedule_served
    · next hr =>
      rw [if_neg hr] at happ
      exact h.appended hs hr fresh happ
  | withdrawn id =>
    have hv := k.settle [.job] (· == id) hs
    have hsv := hs.settle_served [.job] (· == id) h
    unfold State.withdrawal
    dsimp only
    split
    · exact hsv
    · next j hj =>
      have hr := k.removed s id j hs hv hj
      unfold State.withdraw
      split
      · exact hr.schedule_served
      · next hp =>
        have hid := State.findJob_id _ hj
        exact hsv.removeJob hv (hid ▸ hj) hr (by simpa using hp)
  | channel c x _ => exact h.congr hs ht rfl rfl rfl rfl (fun _ => rfl) fun _ => rfl
  | generator g x _ => exact h.congr hs ht rfl rfl rfl rfl (fun _ => rfl) fun _ => rfl
  | started g _ _ =>
    rw [State.startGenerator_eq] at ht ⊢
    split
    · next hc =>
      rw [if_pos hc] at ht
      exact h.congr hs ht rfl rfl rfl rfl (fun _ => rfl) fun _ => rfl
    · have hg := k.generator s g { s.generator g with firings := 0, accumulator := 0 } rfl hs
      exact (k.enterDelaying g hg).schedule_served
  | expired g _ => exact (k.fireGenerator g hs).schedule_served
  | watch w x _ => exact h.congr hs ht rfl rfl rfl rfl (fun _ => rfl) fun _ => rfl
  | recordLeft g =>
    cases hq : (s.resultQueue g).records with
    | nil => rw [s.recordLeaves_nil hq]; exact h
    | cons r rest =>
      rw [s.recordLeaves_eq hq]
      exact (k.headLeft s g r rest hq hs).schedule_served
  | noticeLeft g => exact h.congr hs ht rfl rfl rfl rfl (fun _ => rfl) fun _ => rfl
  | discardedLowered g n =>
    exact h.congr hs ht rfl rfl rfl rfl (fun _ => rfl) (queued g _ rfl rfl)
  | staleReached g =>
    unfold State.reachStale at ht ⊢
    split
    · next hd =>
      rw [if_pos hd] at ht
      exact h.congr hs ht rfl rfl rfl rfl (fun _ => rfl) (queued g _ rfl rfl)
    · exact h
  | edge p level order =>
    have hu : ∀ u : State, u.Orderly strict → ∀ l : List GeneratorId,
        (l.foldl (fun u g => u.generatorEdge p level g) u).Orderly strict := fun u hu l =>
      State.foldl_keeps u (fun u g => k.generatorEdge p level g) l hu
    exact (hu _ (k.deliver _ (hu _ (k.edge s _ hs) _)) _).schedule_served
  | sampled ctx input hc hx =>
    refine h.shrink hs ht ?_ rfl (fun _ _ h => h) (fun ctx _ k hk => ⟨k, hk, rfl⟩) fun c j h => h
    rw [hx]
    rfl
  | shares l => exact hs.takeShares_served l h

namespace State

variable {s t : State} {strict : Prop}

/-- The laws of the scheduler and of the holdings, and that nothing is left waiting. -/
def Settled (s : State) : Prop := s.Scheduled True ∧ s.Held ∧ s.Served

theorem settled_iff (s : State) : s.Settled ↔ s.schedulerLaws ∧ s.holdingLaws ∧ s.servedLaw := by
  rw [← scheduled_iff, ← held_iff]
  constructor
  · rintro ⟨⟨ho, hb⟩, hh, hidle, hu⟩
    refine ⟨⟨{ ho with rank := fun h => h.elim }, hb⟩, hh, hidle, hu, fun j hj rj k hk sk => ?_⟩
    exact ho.rank trivial j.id k.id j k (s.findJob_of_mem ho.names hj) (s.findJob_of_mem ho.names hk) rj sk
  · rintro ⟨⟨ho, hb⟩, hh, hidle, hu, hrank⟩
    refine ⟨⟨{ ho with rank := fun _ a b j k hj hk rj sk => ?_ }, hb⟩, hh, hidle, hu⟩
    exact hrank j (s.findJob_mem hj) rj k (s.findJob_mem hk) sk

theorem Settled.event (e : Event s t) (hs : s.Settled) : t.Settled :=
  ⟨hs.1.event e, eventKept_held.event e hs.2.1, e.served hs.1.1 hs.2.1 hs.2.2⟩

theorem Settled.tick (hs : s.Settled) : s.tick.Settled := by
  obtain ⟨ho, hh, h⟩ := hs
  refine ⟨ho.tick, hh.tick, h.congr ho.1 ho.tick.1 rfl rfl rfl rfl (fun i => ?_) fun _ => rfl⟩
  rw [show s.tick.session i = (s.session i).tick from Table.get_map ..]
  rfl

/-- From the report on the converter is idle and every selection waits (R35, R57). -/
theorem Settled.handOn (hs : s.Settled) : s.handOn.Settled := by
  obtain ⟨ho, hh, h⟩ := hs
  refine ⟨ho.handOn, hh.handOn, ?_⟩
  rcases s.handOn_cases with e | ⟨ctx, ts, held, -, -, -, e⟩
  · rw [e]; exact h
  · have hc : s.handOn.completion = some ⟨ctx.report ts held, allShares⟩ := by rw [e]; rfl
    have hx : s.handOn.converter = none := by
      rw [e, ((s.setConverter none).channelShare_channels _).1]; rfl
    refine ⟨fun _ hw => ?_, s.handOn.urgentWaits_idle hx⟩
    have := selectionWaits_iff.mpr ⟨_, hc, by simp [allShares]⟩
    rw [hw] at this
    cases this

theorem afterReset_settled (straps : Straps) : (State.afterReset straps).Settled := by
  have hs := afterReset_scheduled (strict := True) straps
  refine ⟨hs, afterReset_held straps, fun _ _ => ?_, rfl⟩
  rw [chosenClass_none]
  intro c
  rw [← Bool.not_eq_true, hs.1.qualifies_iff]
  rintro (⟨id, h⟩ | ⟨j, hj, -⟩)
  · cases c <;> cases h
  · cases hj

end State

/-- Settles O10: every row ends with its occasion made, or has let no job become eligible. -/
theorem everyStepLeavesNothingServableWaiting : Obligations.EveryStepLeavesNothingServableWaiting := by
  intro s t hs h
  rw [← State.settled_iff] at hs
  have requeued {u : State} (rows : List Instr) (hu : u.Settled) : ({ u with pending := rows } : State).Settled := by
    obtain ⟨⟨ho, hb⟩, hh, hserved⟩ := hu
    have ho' : ({ u with pending := rows } : State).Orderly True := ho.congr rfl rfl rfl rfl rfl fun _ _ => rfl
    exact ⟨⟨ho', hb⟩, ⟨hh.job, hh.channel, hh.generator, hh.watch, hh.departed⟩,
      hserved.congr ho ho' rfl rfl rfl rfl (fun _ => rfl) fun _ => rfl⟩
  have ht := step_keeps (fun _ _ => State.Settled.event) (fun _ => State.Settled.tick)
    (fun _ => State.Settled.handOn) (fun s straps _ => requeued s.pending (State.afterReset_settled straps))
    (fun _ rows hs => requeued rows hs) h hs
  exact (t.settled_iff.mp ht).2.2

end Sys2Proof.Machine

/-! PROOFS. Reset, the teardowns and the withdrawal (sections 1.5, 8.3, 8.4, 8.5): the state after reset
against every law, HOST_LEFT to each other host, and what a removed job takes with it. -/

namespace Sys2Proof.Machine
namespace State

variable (s : State)

/-! ### HOST_LEFT (R129, R153) -/

theorem post_noticeQueue (h : HostId) (kind : NoticeKind) (subject : Byte) (detail : Nat) (g : HostId) :
    (s.post h kind subject detail).noticeQueue g =
      if g = h ∧ s.isAttached g then
        (s.noticeQueue g).take ⟨kind, subject, BitVec.ofNat 16 detail, s.timebase⟩
      else s.noticeQueue g := by
  unfold post
  split
  · next ha =>
    rw [setNoticeQueue_noticeQueue]
    split
    · next e => rw [if_pos ⟨e, e ▸ ha⟩, e]
    · next e => rw [if_neg fun x : g = h ∧ s.isAttached g => e x.1]
  · next ha => rw [if_neg fun x : g = h ∧ s.isAttached g => ha (x.1 ▸ x.2)]

/-- One post to each of several hosts. -/
theorem foldl_post {l : List HostId} (hn : l.Nodup) (kind : NoticeKind) (subject : Byte) (detail : Nat) :
    l.foldl (fun s g => s.post g kind subject detail) s =
        { s with notices := (l.foldl (fun s g => s.post g kind subject detail) s).notices } ∧
      ∀ g, (l.foldl (fun s g => s.post g kind subject detail) s).noticeQueue g =
        if g ∈ l ∧ s.isAttached g then
          (s.noticeQueue g).take ⟨kind, subject, BitVec.ofNat 16 detail, s.timebase⟩
        else s.noticeQueue g := by
  induction l generalizing s with
  | nil => exact ⟨rfl, fun g => by simp⟩
  | cons a l ih =>
    obtain ⟨hal, hn⟩ := List.nodup_cons.mp hn
    obtain ⟨hrest, hqueue⟩ := ih (s.post a kind subject detail) hn
    have hp := s.post_rest a kind subject detail
    rw [List.foldl_cons]
    refine ⟨?_, fun g => ?_⟩
    · rw [hrest, hp]
    · have attached : (s.post a kind subject detail).isAttached g ↔ s.isAttached g := by rw [hp]; rfl
      have time : (s.post a kind subject detail).timebase = s.timebase := by rw [hp]
      rw [hqueue, post_noticeQueue, time]
      by_cases e : g = a
      · subst e
        simp [hal]
      · simp [e, attached]

theorem announceLeft_posts (h : HostId) (detail : Nat) :
    s.PostsHostLeft (s.announceLeft h detail) h (BitVec.ofNat 16 detail) := by
  have hn : (allHosts.filter (· != h)).Nodup := by revert h; decide
  obtain ⟨hrest, hqueue⟩ := s.foldl_post hn .hostLeft (byteOf h.val) detail
  have mem (g) : g ∈ allHosts.filter (· != h) ↔ g ≠ h := by
    simp [List.mem_filter, mem_allHosts]
  refine ⟨fun g hg => (hqueue g).trans (if_congr ?_ rfl rfl), (hqueue h).trans (if_neg ?_), hrest⟩
  · exact and_iff_right ((mem g).mpr hg)
  · exact fun e => (mem h).mp e.1 rfl

/-- A settlement is of the removed jobs' completions alone, and leaves none of them without the Job
Table's share. -/
theorem settle_owner (h : HostId) :
    ((∀ c ∈ s.completion, c.report.job.owner ≠ h) → (s.settle [.watch, .job] fun id => id.owner == h) = s) ∧
    (s.completionLaw → ∀ c ∈ (s.settle [.watch, .job] fun id => id.owner == h).completion,
      .job ∈ c.left → c.report.job.owner ≠ h) := by
  refine ⟨fun hc => s.settle_other fun c hm => by simpa using hc c hm, fun law c hc hj e => ?_⟩
  exact settle_job (by decide) _ (fun c hc => (law c hc).2.1.nodup (by decide)) c hc (by simpa using e) hj

theorem judgeDetach_eq {h : HostId} (hs : (s.session h).state = .attached) :
    judgeDetach h [] s = (.ok, s.teardown h .detached) :=
  judge_accepts s h rfl hs

/-! ### A withdrawn job (R24, R50, R79) -/

/-- The job gone from the table and its Ready List, its conversion aborted. -/
def withoutJob (id : JobId) (c : JobClass) : State :=
  { s with
    jobs := s.jobs.filter fun k => k.id != id
    ready := s.ready.put c ((s.ready.get c).erase id)
    converter := s.converter.filter fun ctx => ctx.job != id }

/-- Its pass closed as well. -/
def withoutPass (id : JobId) (c : JobClass) : State :=
  { s.withoutJob id c with
    marker := s.marker.put c none
    results := s.results.put id.owner { s.resultQueue id.owner with
      accounts := (s.resultQueue id.owner).accounts.put c none } }

theorem removeJob_eq_without (j : Job) :
    s.removeJob j = if j.inPass then s.withoutPass j.id j.cls else s.withoutJob j.id j.cls := by
  have hx : (if s.executes j.id then none else s.converter) = s.converter.filter fun ctx => ctx.job != j.id := by
    unfold executes
    cases s.converter with
    | none => rfl
    | some ctx => by_cases e : ctx.job = j.id <;> simp [Option.filter, e]
  have cleared : (if (s.setReady j.cls ((s.ready.get j.cls).erase j.id)).executes j.id then
        (s.setReady j.cls ((s.ready.get j.cls).erase j.id)).abort
      else s.setReady j.cls ((s.ready.get j.cls).erase j.id)) =
      { s with ready := s.ready.put j.cls ((s.ready.get j.cls).erase j.id),
               converter := s.converter.filter fun ctx => ctx.job != j.id } := by
    rw [← hx, show (s.setReady j.cls ((s.ready.get j.cls).erase j.id)).executes j.id = s.executes j.id from rfl]
    cases s.executes j.id <;> rfl
  unfold removeJob
  dsimp only
  rw [cleared]
  cases j.inPass <;> rfl

end State

/-! ### The statements -/

/-- Settles O5, law by law. -/
theorem resetMeetsEveryLaw : Obligations.ResetMeetsEveryLaw := by
  obtain ⟨hlaws, hholds, hserved⟩ := (State.settled_iff _).mp (State.afterReset_settled ⟨0, 0, false, false⟩)
  have hrecords := State.afterReset_recordLaws ⟨0, 0, false, false⟩
  have hr (h) : State.reset.resultQueue h = {} := Table.get_make ..
  have hn (h) : State.reset.noticeQueue h = {} := Table.get_make ..
  exact ⟨State.afterReset_slotLaw _, fun h _ => by rw [hr]; decide, fun h _ => by rw [hn]; decide, hholds,
    hlaws, hserved, hrecords.1, hrecords.2.1, hrecords.2.2, rfl⟩

/-- Settles O16, by the parts of a teardown. -/
theorem detachTearsTheHostDown : Obligations.DetachTearsTheHostDown := by
  intro h s ha hs v
  obtain ⟨hother, hdone⟩ := s.settle_owner h
  refine ⟨hother, hdone, _, _, rfl, (v.withoutHost h .detached).announceLeft_posts h 1, ?_⟩
  have e := State.runWrite_ends_of (judge := judgeDetach h []) ha (s.judgeDetach_eq hs)
  rw [s.teardown_eq] at e
  exact e

/-- Settles O17, by the parts of a teardown. -/
theorem leaseExpiryTearsTheHostDown : Obligations.LeaseExpiryTearsTheHostDown := by
  intro h s v
  obtain ⟨hother, hdone⟩ := s.settle_owner h
  refine ⟨hother, hdone, ?_⟩
  have row : exec (.leaseTimerExpiry h) s = .next (s.expireLease h) := rfl
  split
  · next hd =>
    refine ⟨_, (v.withoutHost h .lapsed).announceLeft_posts h 2, ?_⟩
    rw [row, show s.expireLease h = s.teardown h .lapsed from if_pos hd, s.teardown_eq]
    rfl
  · next hd => rw [row, show s.expireLease h = s from if_neg hd]

/-- Settles O24, by the settlement and what the removed job takes with it. -/
theorem withdrawJobRemovesTheJob : Obligations.WithdrawJobRemovesTheJob := by
  intro h tag s ha hs ht v
  refine ⟨fun hc => s.settle_other fun c hm => by simpa using hc c hm, fun law c hc hj e => ?_, _, rfl, ?_⟩
  · exact State.settle_job (by decide) _ (fun c hc => (law c hc).2.1.nodup (by decide)) c hc
      (by simpa using e) hj
  · have judged : judgeWithdrawJob h [tag] s =
        match v.findJob ⟨h, tag⟩ with
        | none => (.noSuchJob, v)
        | some j => (.ok, v.withdraw j) := by
      rw [judgeWithdrawJob, State.tagParam_singleton ht]
      exact State.judge_accepts s h rfl hs
    have e := s.runWrite_ends h (judge := judgeWithdrawJob h [tag]) ha
    rw [judged] at e
    cases hj : v.jobs.find? (fun j => j.id == ⟨h, tag⟩) with
    | none =>
      rw [show v.findJob ⟨h, tag⟩ = none from hj] at e
      exact e
    | some j =>
      rw [show v.findJob ⟨h, tag⟩ = some j from hj] at e
      have hid := v.findJob_id hj
      dsimp only at e ⊢
      rw [State.withdraw, State.removeJob_eq_without, hid] at e
      constructor
      · intro hp
        rw [if_pos (Job.inPass_iff.mpr hp), if_pos (Job.inPass_iff.mpr hp)] at e
        exact e
      · intro hp
        rw [if_neg (mt Job.inPass_iff.mp hp), if_neg (mt Job.inPass_iff.mp hp)] at e
        exact e

end Sys2Proof.Machine

/-! PROOFS. Firings, arrivals and edges (sections 5.2, 5.3, 5.4): a firing by its two ends, an arrival by
the job's state and policy, and what an edge makes of each generator. -/

namespace Sys2Proof.Machine

/-! ### Firings (R100, R101) -/

theorem Generator.endsAt_iff (x : Generator) (count : BitVec 16) :
    x.endsAt count = true ↔ x.mode = .once ∨ x.mode = .burst ∧ count.toNat = x.burst.toNat := by
  unfold endsAt
  cases hm : x.mode <;> simp

theorem Generator.nextInterval_eq (x : Generator) :
    x.nextInterval =
      { x with
        state := .running
        accumulator := if 16 ≤ x.accumulator + x.fraction.toNat then x.accumulator + x.fraction.toNat - 16
          else x.accumulator + x.fraction.toNat
        remaining := some (if 16 ≤ x.accumulator + x.fraction.toNat then x.period.toNat + 1
          else x.period.toNat) } := by
  unfold nextInterval
  dsimp only
  split <;> rfl

namespace State

variable (s : State)

/-- The state in which a firing has been counted and delivered. -/
def firingDelivered (g : GeneratorId) : State :=
  (s.setGenerator g { s.generator g with firings := (s.generator g).firings + 1 }).deliver (generatorHits g)

theorem firingDelivered_generators (g : GeneratorId) : (s.firingDelivered g).generators =
    s.generators.put g { s.generator g with firings := (s.generator g).firings + 1 } :=
  (deliver_engine _ _).generators

/-- A firing by its two ends (R100, R101). -/
theorem fireGenerator_eq (g : GeneratorId) :
    s.fireGenerator g =
      let y := { s.generator g with firings := (s.generator g).firings + 1 }
      if y.endsAt y.firings then
        match y.owner with
        | some h => ((s.firingDelivered g).setGenerator g y.stopped).post h .triggerEnded (byteOf g.val)
            y.firings.toNat
        | none => (s.firingDelivered g).setGenerator g y.stopped
      else (s.firingDelivered g).setGenerator g y.nextInterval := by
  have hx : (s.firingDelivered g).generator g =
      { s.generator g with firings := (s.generator g).firings + 1 } := by
    unfold generator
    rw [firingDelivered_generators, Table.get_put_self]
    rfl
  let fire (x : Generator) : State :=
    if x.endsAt ((s.generator g).firings + 1) then
      match x.owner with
      | some h => ((s.firingDelivered g).setGenerator g x.stopped).post h .triggerEnded (byteOf g.val)
          ((s.generator g).firings + 1).toNat
      | none => (s.firingDelivered g).setGenerator g x.stopped
    else (s.firingDelivered g).setGenerator g x.nextInterval
  have hfire : s.fireGenerator g = fire ((s.firingDelivered g).generator g) := rfl
  exact hfire.trans (congrArg fire hx)

/-! ### Arrivals (R106 to R110) -/

theorem executes_filter (id : JobId) :
    (if s.executes id then none else s.converter) = s.converter.filter fun ctx => ctx.job != id := by
  unfold executes
  cases s.converter with
  | none => rfl
  | some ctx => by_cases e : ctx.job = id <;> simp [Option.filter, e]

/-- The restart of a pass, its conversion aborted (R109). -/
theorem acceptRestart_eq (j : Job) :
    s.acceptRestart j =
      ({ s with converter := s.converter.filter fun ctx => ctx.job != j.id } : State).updateJob j.id Job.restart := by
  rw [← executes_filter]
  unfold acceptRestart
  cases s.executes j.id <;> rfl

section Arrival

variable {s} {j : Job} (hj : s.findJob j.id = some j)
include hj

theorem arrival_armed (h : j.state = .armed) : s.arrival j.id = s.makeReady j.id j.cls := by
  simp only [arrival, hj, h]

theorem arrival_ignore (h : j.state ≠ .armed) (hp : j.policy = .ignore) : s.arrival j.id = s.overrun j := by
  simp only [arrival, hj, hp]

theorem arrival_hold (h : j.state ≠ .armed) (hp : j.policy = .hold) :
    s.arrival j.id = s.holdArrival j := by
  simp only [arrival, hj, hp]

theorem arrival_restart_ready (h : j.state = .ready) (hp : j.policy = .restart) :
    s.arrival j.id = s.overrun j := by
  simp only [arrival, hj, hp, h]

theorem arrival_restart (h : j.inPass) (hp : j.policy = .restart) : s.arrival j.id = s.restartPass j := by
  rw [Job.inPass_iff] at h
  rcases h with h | h <;> simp only [arrival, hj, hp, h]

end Arrival

/-- A RESTART arrival that finds the pass with its conversion or SUSPENDED (R80, R109). -/
theorem restartPass_eq {j : Job} (h : j.state = .suspended ∨ j.state = .running ∧ s.executes j.id = true) :
    s.restartPass j =
      match (s.resultQueue j.id.owner).accounts.get j.cls with
      | none => s.acceptRestart j
      | some held =>
        if j.produced ≤ (s.resultQueue j.id.owner).freePlaces then
          (s.setAccount j.id.owner j.cls (some (held + j.produced))).acceptRestart j
        else s.overrun j := by
  unfold restartPass
  rw [if_neg]
  · rfl
  · rintro ⟨hr, hx⟩
    rcases h with h | ⟨-, h⟩
    · rw [hr] at h; cases h
    · exact hx h

/-! ### Edges (R98, R99, R105) -/

end State

/-- The generator waits for this edge of this pin. -/
abbrev Generator.Awaits (x : Generator) (p : PinId) (rising : Bool) : Prop :=
  x.state = .waitingEdge ∧ x.start = .external p rising

theorem Generator.fired_state (x : Generator) : x.fired.state ≠ .waitingEdge ∧ x.fired.owner = x.owner := by
  unfold fired
  dsimp only
  split
  · exact ⟨by simp [stopped], rfl⟩
  · rw [nextInterval_eq]; exact ⟨by simp, rfl⟩

/-- A generator that has entered its run waits for no edge. -/
theorem Generator.entered_state (x : Generator) :
    x.entered.state ≠ .waitingEdge ∧ x.entered.owner = x.owner := by
  unfold entered
  split
  · exact ({ x with state := .delaying, remaining := none } : Generator).fired_state
  · exact ⟨by simp, rfl⟩

namespace State

variable (s : State)

theorem generatorEdge_generator (p : PinId) (rising : Bool) (g i : GeneratorId) :
    (s.generatorEdge p rising g).generator i =
      if i = g ∧ (s.generator i).Awaits p rising then (s.generator i).entered else s.generator i := by
  unfold generatorEdge
  dsimp only
  split
  · next hw =>
    rw [(s.enterDelaying_frame g).generator, setGenerator_generator]
    split
    · next e => rw [e, if_pos ⟨rfl, hw⟩]
    · next e => rw [if_neg fun h : i = g ∧ _ => e h.1]
  · next hw => rw [if_neg fun h : i = g ∧ _ => hw (h.1 ▸ h.2)]

theorem foldl_generatorEdge_generator (p : PinId) (rising : Bool) (l : List GeneratorId) (i : GeneratorId) :
    (l.foldl (fun u g => u.generatorEdge p rising g) s).generator i =
      if i ∈ l ∧ (s.generator i).Awaits p rising then (s.generator i).entered else s.generator i := by
  induction l generalizing s with
  | nil => simp
  | cons g l ih =>
    have done : ¬ (s.generator i).entered.Awaits p rising := fun h => (s.generator i).entered_state.1 h.1
    have one := s.generatorEdge_generator p rising g i
    rw [List.foldl_cons, ih]
    by_cases hw : (s.generator i).Awaits p rising
    · by_cases e : i = g
      · rw [if_pos ⟨e, hw⟩] at one
        rw [one, if_neg fun h : i ∈ l ∧ _ => done h.2, if_pos ⟨by simp [e], hw⟩]
      · rw [if_neg fun h : i = g ∧ _ => e h.1] at one
        rw [one]
        exact if_congr (and_congr_left fun _ => by simp [e]) rfl rfl
    · rw [if_neg fun h : i = g ∧ _ => hw h.2] at one
      rw [one, if_neg fun h : i ∈ l ∧ _ => hw h.2, if_neg fun h : i ∈ g :: l ∧ _ => hw h.2]

theorem mem_allGenerators (i : GeneratorId) : i ∈ allGenerators := by revert i; decide

/-- An edge makes every generator that waits for it enter its run, and no other (R98). -/
theorem takeEdge_generator (p : PinId) (rising : Bool) (order : EdgeOrder) (i : GeneratorId) :
    (s.takeEdge p rising order).generator i =
      if (s.generator i).Awaits p rising then (s.generator i).entered else s.generator i := by
  have done : ¬ (s.generator i).entered.Awaits p rising := fun h => (s.generator i).entered_state.1 h.1
  have hall : i ∈ order.after ++ allGenerators := List.mem_append_right _ (mem_allGenerators i)
  have hb := s.foldl_generatorEdge_generator p rising order.before i
  unfold takeEdge
  dsimp only
  rw [(schedule_engine _).generator, foldl_generatorEdge_generator, (deliver_engine _ _).generator]
  by_cases hw : (s.generator i).Awaits p rising
  · rw [if_pos hw]
    by_cases hm : i ∈ order.before
    · rw [if_pos ⟨hm, hw⟩] at hb
      rw [hb]
      exact if_neg fun h => done h.2
    · rw [if_neg fun h : i ∈ order.before ∧ _ => hm h.1] at hb
      rw [hb]
      exact if_pos ⟨hall, hw⟩
  · rw [if_neg fun h : i ∈ order.before ∧ _ => hw h.2] at hb
    rw [if_neg hw, hb]
    exact if_neg fun h => hw h.2

/-- What an edge leaves alone. -/
theorem takeEdge_leaves (p : PinId) (rising : Bool) (order : EdgeOrder) :
    (s.takeEdge p rising order).trigSample = s.trigSample ∧
    (s.takeEdge p rising order).timebase = s.timebase ∧ (s.takeEdge p rising order).ports = s.ports ∧
    (s.takeEdge p rising order).sessions = s.sessions ∧
    (s.takeEdge p rising order).channels = s.channels ∧ (s.takeEdge p rising order).watches = s.watches := by
  let P (u : State) : Prop := u.trigSample = s.trigSample ∧ u.timebase = s.timebase ∧ u.ports = s.ports ∧
    u.sessions = s.sessions ∧ u.channels = s.channels ∧ u.watches = s.watches
  have engine {u v : State} (f : u.EngineFrame v) (hu : P u) : P v := by
    obtain ⟨h1, h2, h3, h4, h5, h6⟩ := hu
    exact ⟨f.trigSample.trans h1, f.timebase.trans h2, f.ports.trans h3, f.sessions.trans h4,
      f.channels.trans h5, f.watches.trans h6⟩
  refine takeEdge_keeps (P := P) s order (fun u g hu => ?_) (fun u => engine (u.deliver_engine _))
    (fun u => engine u.schedule_engine) ⟨rfl, rfl, rfl, rfl, rfl, rfl⟩
  rcases u.generatorEdge_frame p rising g with e | ⟨-, f⟩
  · rw [e]; exact hu
  · exact engine f hu

theorem edgeHits_eq (p : PinId) (rising : Bool) (src : Source) :
    edgeHits p rising src = decide (src = .pin p .either ∨ src = .pin p (if rising then .rise else .fall)) := by
  rw [Bool.eq_iff_iff]
  cases src with
  | pin q e => cases e <;> cases rising <;> simp [edgeHits]
  | _ => simp [edgeHits]

end State

/-! ### The statements -/

/-- Settles O33, by the two ends of a firing. -/
theorem aFiringCountsDeliversAndEndsOrGoesOn : Obligations.AFiringCountsDeliversAndEndsOrGoesOn := by
  intro g s x count u ends sum
  have hends : ({ x with firings := count } : Generator).endsAt count = true ↔ ends :=
    Generator.endsAt_iff _ _
  refine ⟨s.firingDelivered_generators g, fun he => ?_, fun he => ?_⟩
  · rw [s.fireGenerator_eq]
    dsimp only
    rw [if_pos (hends.mpr he)]
    rfl
  · rw [s.fireGenerator_eq]
    dsimp only
    rw [if_neg (mt hends.mp he), Generator.nextInterval_eq]
    rfl

/-- Settles O37, by the state of the job and its policy. -/
theorem anArrivalActsByStateAndPolicy : Obligations.AnArrivalActsByStateAndPolicy := by
  refine ⟨fun hits s => rfl, fun j s hj => ?_⟩
  intro change count overrun restart q
  refine ⟨fun ha => s.arrival_armed hj ha, fun ha => ⟨fun hp => ?_, fun hp => ?_, fun hp hr => ?_,
    fun hp hr hx => ?_, fun hp h => ?_⟩⟩
  · exact s.arrival_ignore hj ha hp
  · exact s.arrival_hold hj ha hp
  · exact s.arrival_restart_ready hj hr hp
  · refine (s.arrival_restart hj (Job.inPass_of_running hr) hp).trans ?_
    exact if_pos ⟨hr, by simp [hx]⟩
  · have hpass : j.inPass := Job.inPass_iff.mpr (h.symm.imp_left And.left)
    rw [s.arrival_restart hj hpass hp, s.restartPass_eq h]
    cases hq : q.accounts.get j.cls with
    | none =>
      exact s.acceptRestart_eq j
    | some held =>
      exact if_congr .rfl (State.acceptRestart_eq _ j) rfl

/-- Settles O38, by what an edge makes of each generator. -/
theorem anEdgeStartsTheWaitingGenerators : Obligations.AnEdgeStartsTheWaitingGenerators := by
  intro p level order s waits start matching before
  have row : exec (.trigEdge p level order) s =
      if s.trigSample.get p = level then .next s
      else .next ({ s with trigSample := s.trigSample.put p level }.takeEdge p level order) := rfl
  refine ⟨fun h => row.trans (if_pos h), fun h => ⟨_, row.trans (if_neg h), ?_, ?_⟩⟩
  · have hstart : start = fun u g => u.generatorEdge p level g := rfl
    have hmatch : edgeHits p level = matching := funext fun src => State.edgeHits_eq p level src
    unfold State.takeEdge
    rw [hmatch]
    rfl
  · obtain ⟨h1, h2, h3, h4, h5, h6⟩ :=
      State.takeEdge_leaves { s with trigSample := s.trigSample.put p level } p level order
    refine ⟨h1, h2, h3, h4, h5, h6, fun g => ?_⟩
    have hg := State.takeEdge_generator { s with trigSample := s.trigSample.put p level } p level order g
    have hs : ({ s with trigSample := s.trigSample.put p level } : State).generator g = s.generator g := rfl
    rw [hs] at hg
    split
    · next hw =>
      rw [if_pos hw] at hg
      rw [hg]
      refine ⟨(s.generator g).entered_state.1, (s.generator g).entered_state.2, fun hd => ?_⟩
      exact if_neg hd
    · next hw => rw [hg]; exact if_neg hw

end Sys2Proof.Machine

/-! PROOFS. Selections (sections 2.1 to 2.7, 3.3): the choice of a class and of a job, what a selection
makes of the state, and preemption. -/

namespace Sys2Proof.Machine
namespace State

variable (s : State)

/-! ### Choices (R32, R37, R39) -/

theorem eligible_iff (j : Job) : s.eligible j = true ↔ j.state = .ready ∧
    (j.dest = .table ∨ (s.session j.id.owner).options.fullPolicy = .discard ∨
      j.entries.length ≤ (s.resultQueue j.id.owner).freePlaces) := by
  unfold eligible
  simp only [Bool.and_eq_true, Bool.or_eq_true, beq_iff_eq, decide_eq_true_eq, or_assoc]

theorem qualifies_iff (c : JobClass) :
    s.qualifies c = true ↔ s.marker.get c ≠ none ∨ s.eligibleJobs c ≠ [] := by
  unfold qualifies
  simp [Option.isSome_iff_ne_none]

/-- The eligible job that the rotation finds: of the first host, or of the second where the first has
none, or of the third (R31, R39). -/
theorem chosenJob_cases {c : JobClass} {j : Job} (h : s.chosenJob c = some j) :
    let oldest (g : HostId) := (s.eligibleJobs c).find? fun k => k.id.owner == g
    let p := s.rotation.get c
    oldest (p + 1) = some j ∨ oldest (p + 1) = none ∧ oldest (p + 2) = some j ∨
      oldest (p + 1) = none ∧ oldest (p + 2) = none ∧ oldest p = some j := by
  intro oldest p
  have h : [p + 1, p + 2, p].findSome? oldest = some j := h
  cases h1 : oldest (p + 1) with
  | some k => rw [List.findSome?_cons, h1] at h; exact .inl h
  | none =>
    cases h2 : oldest (p + 2) with
    | some k => rw [List.findSome?_cons, h1, List.findSome?_cons, h2] at h; exact .inr (.inl ⟨rfl, h⟩)
    | none =>
      rw [List.findSome?_cons, h1, List.findSome?_cons, h2, List.findSome?_singleton] at h
      exact .inr (.inr ⟨rfl, rfl, h⟩)

/-! ### The start of a conversion (R55) -/

/-- The context that a conversion starts with: the channel's settings as they stand. -/
def contextFor (j : Job) (i : Nat) (e : Entry) : Context :=
  { job := j.id, index := i, channel := e.channel, kind := j.kind,
    threshold := if j.kind = .compare then some e.threshold else none,
    setting := (s.channel e.channel).setting,
    rate := if j.kind = .convert then some (s.channel e.channel).rate else none,
    phase := .sampling }

theorem startConversion_eq {j : Job} {e : Entry} (hj : s.findJob j.id = some j)
    (he : j.entries[j.cursor]? = some e) :
    s.startConversion j.id = s.setConverter (some (s.contextFor j j.cursor e)) := by
  unfold startConversion
  rw [hj]
  dsimp only
  rw [he]
  rfl

/-! ### The service of a class (R38, R40, R41) -/

/-- The served job as `f` leaves it, and no RUNNING job in another class. -/
theorem jobs_served (c : JobClass) (id : JobId) {f : Job → Job}
    (hf : ∀ k state, f { k with state := state } = f k) :
    ((s.setJobs (s.jobs.map (Job.yieldTo c))).updateJob id f).jobs =
      s.jobs.map fun k => if k.id = id then f k
        else if k.state = .running ∧ k.cls ≠ c then { k with state := .suspended } else k := by
  simp only [updateJob, setJobs_jobs, List.map_map]
  refine List.map_congr_left fun k _ => ?_
  dsimp only [Function.comp]
  rw [yieldTo_id]
  by_cases h : k.id = id
  · rw [if_pos h, if_pos h]
    unfold Job.yieldTo
    split
    · exact hf k _
    · rfl
  · rw [if_neg h, if_neg h]
    rfl

theorem findJob_yieldTo_of_class {c : JobClass} {id : JobId} {j : Job} (hj : s.findJob id = some j)
    (hc : j.cls = c) : (s.setJobs (s.jobs.map (Job.yieldTo c))).findJob id = some j := by
  rw [findJob_yieldTo, hj]
  exact congrArg some (if_neg fun h => h.2 hc)

theorem resume_eq {j : Job} {e : Entry} (hj : s.findJob j.id = some j)
    (he : j.entries[j.cursor]? = some e) :
    s.resume j.id = (s.updateJob j.id fun k => { k with state := .running }).setConverter
      (some (s.contextFor j j.cursor e)) := by
  have hf := findJob_update (s := s) (f := fun k => { k with state := .running }) (by intro; rfl) rfl hj
  exact startConversion_eq (j := { j with state := .running }) _ hf he

/-- The result queues once a grant has reserved its places, where it reserves any (R74). -/
def reservedResults (j : Job) : Table 3 ResultQueue :=
  if j.dest = .queue ∧ (s.session j.id.owner).options.fullPolicy = .wait then
    s.results.put j.id.owner { s.resultQueue j.id.owner with
      accounts := (s.resultQueue j.id.owner).accounts.put j.cls (some j.entries.length) }
  else s.results

theorem reserve_eq (j : Job) : s.reserve j = { s with results := s.reservedResults j } := by
  unfold reserve reservedResults
  split <;> rfl

/-- A grant, all its parts together (R40, R74). -/
theorem grant_eq {j : Job} {e : Entry} (hj : s.findJob j.id = some j) (he : j.entries[0]? = some e) :
    s.grant j =
      { s with
        jobs := (s.updateJob j.id Job.granted).jobs
        ready := s.ready.put j.cls ((s.ready.get j.cls).erase j.id)
        marker := s.marker.put j.cls (some j.id)
        rotation := s.rotation.put j.cls j.id.owner
        results := s.reservedResults j
        converter := some (s.contextFor j 0 e) } := by
  let u := ((s.setReady j.cls ((s.ready.get j.cls).erase j.id)).setMarker j.cls (some j.id)).setRotation
    j.cls j.id.owner
  have hg : s.grant j = ((u.reserve j).updateJob j.id Job.granted).startConversion j.id := rfl
  have hf : (({ u with results := u.reservedResults j } : State).updateJob j.id Job.granted).findJob j.id =
      some j.granted := findJob_update (s := s) (f := Job.granted) (by intro; rfl) rfl hj
  rw [hg, reserve_eq]
  exact startConversion_eq (j := j.granted) _ hf he

end State

/-! ### The statements -/

/-- Settles O57, by the choice of a class and of a job. -/
theorem selectionIsByClassThenRotation : Obligations.SelectionIsByClassThenRotation := by
  intro s
  refine ⟨s.eligible_iff, fun c => List.filter_filterMap, s.qualifies_iff, fun c hc =>
    ⟨s.chosenClass_some hc, fun d hd => ?_⟩, s.chosenClass_none, fun c j hj => ?_, fun c hc => ?_⟩
  · rw [← Bool.not_eq_true]
    exact fun hq => Nat.not_le_of_lt hd (State.chosenClass_highest hc hq)
  · have absent {g} (h : (s.eligibleJobs c).find? (fun k => k.id.owner == g) = none) :
        ∀ k ∈ s.eligibleJobs c, k.id.owner ≠ g := by
      intro k hk e
      simpa [e] using List.find?_eq_none.mp h k hk
    have owner {g} (h : (s.eligibleJobs c).find? (fun k => k.id.owner == g) = some j) : j.id.owner = g := by
      simpa using List.find?_some h
    refine ⟨s.chosenJob_mem hj, ?_⟩
    rcases s.chosenJob_cases hj with h | ⟨h1, h⟩ | ⟨h1, h2, h⟩
    · have ho := owner h
      exact ⟨fun _ _ _ => ho, fun _ _ _ => .inl ho, by rw [ho]; exact h⟩
    · have ho := owner h
      exact ⟨fun k hk e => absurd e (absent h1 k hk), fun _ _ _ => .inr ho, by rw [ho]; exact h⟩
    · have ho := owner h
      exact ⟨fun k hk e => absurd e (absent h1 k hk), fun k hk e => absurd e (absent h2 k hk),
        by rw [ho]; exact h⟩
  · by_contra hne
    obtain ⟨j, hj⟩ := State.chosenJob_of_eligible hne
    rw [hc] at hj
    cases hj

/-- Settles O58, by the service of the chosen class. -/
theorem aSelectionResumesOrGrants : Obligations.ASelectionResumesOrGrants := by
  intro c j e s hopen hi hc hj hcls running context q
  have hw : s.selectionWaits = false := by
    rw [← Bool.not_eq_true, State.selectionWaits_iff]
    rintro ⟨x, hx, hl⟩
    exact hopen x hx hl
  have hy := s.findJob_yieldTo_of_class hj hcls
  subst hcls
  refine ⟨fun hm he => ?_, fun hm hch he => ?_⟩
  · rcases s.serve_cases j.cls with ⟨id, hm', h⟩ | ⟨_, hm', -⟩ | ⟨hm', -⟩ <;> rw [hm] at hm' <;> cases hm'
    rw [s.select_serves hw hi hc, h, State.resume_eq _ hy he]
    have hjobs := s.jobs_served j.cls j.id (f := fun k => { k with state := .running }) (by intro _ _; rfl)
    unfold State.setConverter
    rw [hjobs]
    rfl
  · rcases s.serve_cases j.cls with ⟨_, hm', -⟩ | ⟨k, -, hch', h⟩ | ⟨-, hch', -⟩
    · rw [hm] at hm'; cases hm'
    · cases hch.symm.trans hch'
      rw [s.select_serves hw hi hc, h, State.grant_eq _ hy he]
      have hjobs := s.jobs_served j.cls j.id (f := Job.granted) (by intro _ _; rfl)
      rw [hjobs]
      rfl
    · rw [hch] at hch'; cases hch'

end Sys2Proof.Machine

/-! PROOFS. The Job Table's share in full (sections 1.4, 4.1, 4.3): where an offered record goes and
what it leaves in the queue, the next entry, and the end of a pass with its notices. -/

namespace Sys2Proof.Machine
namespace State

variable (s : State)

/-! ### The offer of a record (R75, R76, R77) -/

/-- A record of the class is placed: from the reservation, or in a free place. -/
def Places (h : HostId) (c : JobClass) : Prop :=
  (∃ n, (s.resultQueue h).accounts.get c = some (n + 1)) ∨
    (s.resultQueue h).records.length + (s.resultQueue h).reserved < 64

theorem places_iff (h : HostId) (c : JobClass) :
    s.Places h c ↔ (s.resultQueue h).placement c ≠ .dropped := by
  have free : 0 < (s.resultQueue h).freePlaces ↔
      (s.resultQueue h).records.length + (s.resultQueue h).reserved < 64 := by
    unfold ResultQueue.freePlaces Config.resultPlaces
    omega
  unfold Places
  rw [← free]
  rcases (s.resultQueue h).placement_cases c with ⟨left, ha, hp⟩ | ⟨ha, hf, hp⟩ | ⟨ha, hf, hp⟩ <;> rw [hp]
  · exact iff_of_true (.inl ⟨left, ha⟩) (by simp)
  · exact iff_of_true (.inr hf) (by simp)
  · exact iff_of_false (fun h => h.elim (fun ⟨n, hn⟩ => ha n hn) fun h => by omega) (by simp)

/-- The state of a record that joins a queue. -/
theorem appendRecord_eq (h : HostId) (r : ResultRecord) :
    s.appendRecord h r = s.setResultQueue h { s.resultQueue h with
      records := (s.resultQueue h).records ++ [r]
      staleMark := if (s.resultQueue h).records = [] then s.headReached h [r]
        else (s.resultQueue h).staleMark } := by
  obtain ⟨hrest, hothers⟩ := s.appendRecord_rest h r
  have hqueue := s.appendRecord_resultQueue h r
  rw [hrest]
  unfold setResultQueue
  have : (s.appendRecord h r).results = s.results.put h ((s.appendRecord h r).resultQueue h) := by
    refine Table.ext_get fun g => ?_
    by_cases e : g = h
    · subst e; rw [Table.get_put_self]; rfl
    · rw [Table.get_put_ne _ _ e]; exact hothers g e
  rw [this, hqueue]

/-- A placed record stands at the tail of its owner's queue and counts for its job (R11, R71, R75). -/
theorem offer_placed {id : JobId} {c : JobClass} (r : ResultRecord) (hp : s.Places id.owner c) :
    ∃ accounts, s.offer id c r = (s.setResultQueue id.owner { s.resultQueue id.owner with
      accounts := accounts
      records := (s.resultQueue id.owner).records ++ [r.sealed]
      staleMark := if (s.resultQueue id.owner).records = [] then s.headReached id.owner [r.sealed]
        else (s.resultQueue id.owner).staleMark }).updateJob id Job.countPlaced := by
  rw [places_iff] at hp
  unfold offer
  rcases (s.resultQueue id.owner).placement_cases c with ⟨left, -, hq⟩ | ⟨-, -, hq⟩ | ⟨-, -, hq⟩
  · simp only [hq]
    rw [appendRecord_eq]
    unfold setAccount
    rw [setResultQueue_resultQueue_self, setResultQueue_twice]
    exact ⟨_, rfl⟩
  · simp only [hq]
    rw [appendRecord_eq]
    exact ⟨_, rfl⟩
  · exact absurd hq hp

/-- A dropped record is counted by the host and by the job (R77). -/
theorem offer_dropped {id : JobId} {c : JobClass} (r : ResultRecord) (hp : ¬ s.Places id.owner c) :
    s.offer id c r = (s.setResultQueue id.owner { s.resultQueue id.owner with
      discarded := min 65535 ((s.resultQueue id.owner).discarded + 1) }).updateJob id Job.countDropped := by
  rw [places_iff, not_not] at hp
  unfold offer
  simp only [hp]

/-- The job once its record has been offered (R11). -/
theorem findJob_offer {id : JobId} {j : Job} (c : JobClass) (r : ResultRecord) (hj : s.findJob id = some j) :
    (s.Places id.owner c → (s.offer id c r).findJob id = some j.countPlaced) ∧
    (¬ s.Places id.owner c → (s.offer id c r).findJob id = some j.countDropped) := by
  refine ⟨fun hp => ?_, fun hp => ?_⟩
  · obtain ⟨a, e⟩ := s.offer_placed r hp
    rw [e]
    exact findJob_update (s := s) (by intro; rfl) rfl hj
  · rw [s.offer_dropped r hp]
    exact findJob_update (s := s) (by intro; rfl) rfl hj

theorem offer_leaves (id : JobId) (c : JobClass) (r : ResultRecord) :
    (s.offer id c r).marker = s.marker ∧ (s.offer id c r).ready = s.ready ∧
    (s.offer id c r).notices = s.notices ∧ (s.offer id c r).converter = s.converter ∧
    (s.offer id c r).completion = s.completion := by
  obtain ⟨hrest, -, -⟩ := s.offer_rest id c r
  rw [hrest]
  exact ⟨rfl, rfl, rfl, rfl, rfl⟩

/-! ### The next entry (R19) -/

/-- The share of an entry that is not the last. -/
theorem jobShare_advances {r : Report} {j k : Job} (hj : s.findJob r.job = some j)
    (hk : (s.offerRecord j r).findJob r.job = some k) (hl : j.cursor + 1 < j.entries.length) :
    s.jobShare r = (s.offerRecord j r).updateJob r.job Job.advance := by
  rw [s.jobShare_some hj, hk]
  dsimp only
  rw [if_neg (Nat.not_le_of_lt hl), findJob_id _ hk]

/-- The share of the last entry. -/
theorem jobShare_ends {r : Report} {j k : Job} (hj : s.findJob r.job = some j)
    (hk : (s.offerRecord j r).findJob r.job = some k) (hl : j.entries.length ≤ j.cursor + 1) :
    s.jobShare r = (s.offerRecord j r).endPass k := by
  rw [s.jobShare_some hj, hk]
  dsimp only
  rw [if_pos hl]

theorem offerRecord_table {j : Job} (hd : j.dest = .table) (r : Report) : s.offerRecord j r = s := by
  unfold offerRecord
  rw [hd]
  rfl

theorem offerRecord_queue {j : Job} (hd : j.dest = .queue) (r : Report) :
    s.offerRecord j r = s.offer j.id j.cls (j.record r (decide (j.entries.length ≤ j.cursor + 1))) :=
  if_pos hd

theorem offerRecord_leaves (j : Job) (r : Report) :
    (s.offerRecord j r).marker = s.marker ∧ (s.offerRecord j r).ready = s.ready ∧
    (s.offerRecord j r).notices = s.notices ∧ (s.offerRecord j r).converter = s.converter ∧
    (s.offerRecord j r).completion = s.completion := by
  unfold offerRecord
  split
  · exact s.offer_leaves ..
  · exact ⟨rfl, rfl, rfl, rfl, rfl⟩

/-- The job after the offer of its record, by what became of the record. -/
theorem findJob_offerRecord {j : Job} (r : Report) (hj : s.findJob j.id = some j) :
    (j.dest = .table → (s.offerRecord j r).findJob j.id = some j) ∧
    (j.dest = .queue → s.Places j.id.owner j.cls → (s.offerRecord j r).findJob j.id = some j.countPlaced) ∧
    (j.dest = .queue → ¬ s.Places j.id.owner j.cls →
      (s.offerRecord j r).findJob j.id = some j.countDropped) := by
  refine ⟨fun hd => ?_, fun hd hp => ?_, fun hd hp => ?_⟩
  · rw [s.offerRecord_table hd]; exact hj
  · rw [s.offerRecord_queue hd]; exact (s.findJob_offer _ _ hj).1 hp
  · rw [s.offerRecord_queue hd]; exact (s.findJob_offer _ _ hj).2 hp

theorem findJob_offerRecord_isSome {j : Job} (r : Report) (hj : s.findJob j.id = some j) :
    ∃ k, (s.offerRecord j r).findJob j.id = some k ∧ k.state = j.state ∧ k.cursor = j.cursor := by
  obtain ⟨h1, h2, h3⟩ := s.findJob_offerRecord r hj
  cases hd : j.dest with
  | table => exact ⟨j, h1 hd, rfl, rfl⟩
  | queue =>
    by_cases hp : s.Places j.id.owner j.cls
    · exact ⟨_, h2 hd hp, rfl, rfl⟩
    · exact ⟨_, h3 hd hp, rfl, rfl⟩

/-! ### The end of a pass (R22, R23, R78) -/

theorem post_notices_congr {t : State} (hn : t.notices = s.notices) (hs : t.sessions = s.sessions)
    (ht : t.timebase = s.timebase) (h : HostId) (kind : NoticeKind) (subject : Byte) (detail : Nat) :
    (t.post h kind subject detail).notices = (s.post h kind subject detail).notices := by
  unfold post
  rw [show t.session h = s.session h from congrArg (·.get h) hs,
    show t.noticeQueue h = s.noticeQueue h from congrArg (·.get h) hn, ht]
  split
  · rw [setNoticeQueue_notices, setNoticeQueue_notices, hn]
  · exact hn

/-- A post that may be made moves the notices alone, and these as on any state of the same notices,
sessions and time. -/
theorem post_if_congr {t : State} (hn : t.notices = s.notices) (hs : t.sessions = s.sessions)
    (ht : t.timebase = s.timebase) (q : Prop) [Decidable q] (h : HostId) (kind : NoticeKind)
    (subject : Byte) (detail : Nat) :
    (if q then t.post h kind subject detail else t) =
      { t with notices := (if q then s.post h kind subject detail else s).notices } := by
  rw [post_if_rest]
  congr 1
  split
  · exact s.post_notices_congr hn hs ht ..
  · exact hn

/-- The two notices of a pass end (R22). -/
def passNotices (j : Job) : State :=
  let n := if j.notifyPass then s.post j.id.owner .passDone j.id.tag j.passesDone else s
  if 0 < j.discarded then n.post j.id.owner .resultsDiscarded j.id.tag j.discarded else n

/-- The end of a pass up to the disposal, all its parts together (R22, R78). -/
theorem closePass_eq (j : Job) : s.closePass j =
    { s with
      jobs := (s.updateJob j.id Job.endPass).jobs
      notices := (s.passNotices j).notices
      marker := s.marker.put j.cls none
      results := s.results.put j.id.owner { s.resultQueue j.id.owner with
        accounts := (s.resultQueue j.id.owner).accounts.put j.cls none } } := by
  unfold closePass passNotices
  dsimp only
  have hrest := s.post_if_rest (j.notifyPass = true) j.id.owner .passDone j.id.tag j.passesDone
  rw [post_if_congr (s := s) (t := s.updateJob j.id Job.endPass) rfl rfl rfl]
  generalize (if j.notifyPass = true then s.post j.id.owner .passDone j.id.tag j.passesDone else s) = n at *
  have second := post_if_congr (s := n) (t := { s.updateJob j.id Job.endPass with notices := n.notices }) rfl
    (by rw [hrest]; rfl) (by rw [hrest]; rfl) (0 < j.discarded) j.id.owner .resultsDiscarded j.id.tag
    j.discarded
  rw [second]
  rfl

theorem passNotices_rest (j : Job) : s.passNotices j = { s with notices := (s.passNotices j).notices } := by
  unfold passNotices
  dsimp only
  rw [post_if_rest, post_if_rest]

/-- The jobs at the end of a pass, the ended one's record apart (R22). -/
theorem closePass_filter (j : Job) :
    (s.closePass j).jobs.filter (fun k => k.id != j.id) = s.jobs.filter fun k => k.id != j.id := by
  rw [closePass_eq]
  simp only [updateJob, setJobs_jobs, List.filter_map]
  have same : (fun k : Job => k.id != j.id) ∘ (fun k => if k.id = j.id then k.endPass else k) =
      fun k => k.id != j.id := by
    funext k
    by_cases e : k.id = j.id <;> simp [e, Job.endPass]
  rw [same]
  refine (List.map_congr_left fun k hk => ?_).trans (List.map_id _)
  exact if_neg (by simpa using (List.mem_filter.mp hk).2)

/-- The disposal of a job that completes (R23). -/
theorem dispose_completes {j : Job} (h : j.passLimit ≠ 0 ∧ j.passesDone = j.passLimit) :
    s.dispose j = (s.post j.id.owner .jobDone j.id.tag j.passesDone).setJobs
      (s.jobs.filter fun k => k.id != j.id) := by
  unfold dispose
  rw [if_pos h]
  dsimp only
  rw [post_rest]

/-- The disposal of a job whose next pass has been called for (R23). -/
theorem dispose_ready {j : Job} (h : ¬ (j.passLimit ≠ 0 ∧ j.passesDone = j.passLimit))
    (hr : j.pendingTrigger = true ∨ j.source = .now) :
    ∃ f : Job → Job, (∀ k, (f k).id = k.id) ∧ f j = { j with state := .ready, pendingTrigger := false } ∧
      s.dispose j = (s.updateJob j.id f).setReady j.cls (s.ready.get j.cls ++ [j.id]) := by
  unfold dispose
  rw [if_neg h]
  cases hp : j.pendingTrigger with
  | true =>
    refine ⟨fun k => { k with state := .ready, pendingTrigger := false }, by intro; rfl, rfl, ?_⟩
    have hjobs := updateJob_jobs_updateJob s j.id (f := fun k => { k with pendingTrigger := false })
      (g := fun k => { k with state := .ready }) (by intro; rfl)
    rw [if_pos rfl]
    unfold makeReady
    refine congrArg (fun jobs => (s.setJobs jobs).setReady j.cls (s.ready.get j.cls ++ [j.id])) ?_
    exact hjobs
  | false =>
    have hn : j.source = .now := hr.resolve_left (by simp [hp])
    refine ⟨fun k => { k with state := .ready }, by intro; rfl, ?_, ?_⟩
    · rw [← hp]
    · rw [if_neg (by simp), if_pos hn]
      rfl

/-- The disposal of a job that waits for its source again (R23). -/
theorem dispose_armed {j : Job} (h : ¬ (j.passLimit ≠ 0 ∧ j.passesDone = j.passLimit))
    (hr : ¬ (j.pendingTrigger = true ∨ j.source = .now)) :
    s.dispose j = s.updateJob j.id fun k => { k with state := .armed } := by
  obtain ⟨hp, hn⟩ := not_or.mp hr
  unfold dispose
  rw [if_neg h, if_neg hp, if_neg hn]

end State

/-! ### The statements -/

/-- Settles O48: the offer, and then the cursor. -/
theorem anEntryCompletionAdvancesTheCursor : Obligations.AnEntryCompletionAdvancesTheCursor := by
  intro r j s hj hl q placed
  have hid := s.findJob_id hj
  rw [← hid] at hj
  obtain ⟨h1, h2, h3⟩ := s.findJob_offerRecord r hj
  obtain ⟨k, hk, -⟩ := s.findJob_offerRecord_isSome r hj
  have hshare := s.jobShare_advances (hid ▸ hj) (hid ▸ hk) hl
  obtain ⟨hm, hr, hn, -⟩ := s.offerRecord_leaves j r
  have found {l : Job} (h : (s.offerRecord j r).findJob j.id = some l) :
      l.advance = k.advance := by rw [hk] at h; cases h; rfl
  rw [hshare, ← hid]
  refine ⟨k.advance, State.findJob_update (by intro; rfl) rfl hk, fun hd => ?_, fun hd hp => ?_, fun hd hp => ?_,
    hm, hr, hn⟩
  · exact (found (h1 hd)).symm
  · exact (found (h2 hd (hid ▸ hp))).symm
  · exact (found (h3 hd (hid ▸ hp))).symm

/-- Settles O49: the offer, the notices of the end, and the disposal by the job's kind. -/
theorem aPassEndNotifiesAndDisposes : Obligations.APassEndNotifiesAndDisposes := by
  intro j s hj h done ended completes ready t n1 n2 n3
  have ht : t = (s.closePass j).dispose j.endPass := s.endPass_eq j
  have hclose := s.closePass_eq j
  have hn2 : n2 = { s with notices := n2.notices } := s.passNotices_rest j
  have hv : (s.closePass j).findJob j.id = some j.endPass :=
    State.findJob_update (s := s) (by intro; rfl) (by rw [hclose]) hj
  have hfilter := s.closePass_filter j
  obtain ⟨⟨dmarker, -, -, dresults⟩, -⟩ := (s.closePass j).dispose_cases j.endPass
  have hready : (s.closePass j).ready = s.ready := by rw [hclose]
  have vnotices : (s.closePass j).notices = n2.notices := by rw [hclose]; rfl
  refine ⟨fun r hr hl => ?_, ?_, ?_, ?_, fun hc => ?_, fun hc hrd => ?_, fun hc hrd => ?_⟩
  · intro q placed record
    obtain ⟨h1, h2, h3⟩ := s.findJob_offerRecord r hj
    have shares {k : Job} (hk : (s.offerRecord j r).findJob j.id = some k) :
        s.jobShare r = (s.offerRecord j r).endPass k := s.jobShare_ends (hr ▸ hj) (hr ▸ hk) hl
    have hlast : decide (j.entries.length ≤ j.cursor + 1) = true := decide_eq_true hl
    refine ⟨fun hd => ?_, fun hd hp => ?_, fun hd hp => ?_⟩
    · rw [shares (h1 hd), s.offerRecord_table hd]
    · rw [shares (h2 hd hp), s.offerRecord_queue hd, hlast]; rfl
    · rw [shares (h3 hd hp), s.offerRecord_queue hd, hlast]; rfl
  · rw [ht]
    by_cases hc : completes
    · rw [State.dispose_completes _ hc, show n3 = n2.post h .jobDone j.id.tag done from if_pos hc]
      refine State.post_notices_congr n2 vnotices ?_ ?_ ..
      · rw [hclose, hn2]
      · rw [hclose, hn2]
    · rw [show n3 = n2 from if_neg hc, ← vnotices]
      by_cases hrd : ready
      · obtain ⟨f, -, -, e⟩ := (s.closePass j).dispose_ready (j := j.endPass) hc hrd
        rw [e]
        rfl
      · rw [(s.closePass j).dispose_armed (j := j.endPass) hc hrd]
        rfl
  · rw [ht, dmarker, hclose]
  · rw [ht, dresults, hclose]
  · rw [ht, State.dispose_completes _ hc, State.post_rest]
    exact ⟨hfilter, hready⟩
  · obtain ⟨f, hf, hfj, e⟩ := (s.closePass j).dispose_ready (j := j.endPass) hc hrd
    rw [ht, e]
    refine ⟨?_, ?_⟩
    · have := State.findJob_update (s := s.closePass j) (id := j.id) hf rfl hv
      rw [hfj] at this
      exact this
    · rw [← hready]
      rfl
  · rw [ht, (s.closePass j).dispose_armed (j := j.endPass) hc hrd]
    exact ⟨State.findJob_update (s := s.closePass j) (id := j.id) (by intro; rfl) rfl hv, hready⟩

end Sys2Proof.Machine

/-! PROOFS. The completion of a conversion (sections 3.4, 3.5, 3.7, 4.1, 4.3, 6.3): its shares in any
order, what each of them leaves alone, and what the reported job meets before its own share. -/

namespace Sys2Proof.Machine

/-- A job's record but for the marks that arrivals leave at a job in a pass (R107, R108). -/
def Job.Marked (j k : Job) : Prop :=
  k = { j with overrunReported := k.overrunReported, pendingTrigger := k.pendingTrigger, overruns := k.overruns }

theorem Job.Marked.trans {j k l : Job} (a : j.Marked k) (b : k.Marked l) : j.Marked l := by
  unfold Job.Marked at *
  rw [b, a]

namespace State

/-! ### What the shares leave of the queues -/

/-- Every queue keeps its records, its stale mark and its discarded-records count. -/
def KeepsQueues (s t : State) : Prop :=
  ∀ h, t.resultQueue h = { s.resultQueue h with accounts := (t.resultQueue h).accounts }

namespace KeepsQueues

variable {s t u : State}

theorem refl (s : State) : s.KeepsQueues s := fun _ => rfl

theorem trans (a : s.KeepsQueues t) (b : t.KeepsQueues u) : s.KeepsQueues u := fun h => by
  rw [b h, a h]

theorem of_engine (f : s.EngineFrame t) : s.KeepsQueues t := f.queue

/-- A share that reaches no host's queue in particular reaches none. -/
theorem of_share (f : ∀ g, s.ShareFrame g t) : s.KeepsQueues t := fun h => by
  obtain ⟨g, hg⟩ : ∃ g : HostId, h ≠ g := ⟨h + 1, by revert h; decide⟩
  exact (f g).queue h hg

theorem records (f : s.KeepsQueues t) (h : HostId) : (t.resultQueue h).records = (s.resultQueue h).records := by
  rw [f h]

theorem staleMark (f : s.KeepsQueues t) (h : HostId) :
    (t.resultQueue h).staleMark = (s.resultQueue h).staleMark := by rw [f h]

theorem discarded (f : s.KeepsQueues t) (h : HostId) :
    (t.resultQueue h).discarded = (s.resultQueue h).discarded := by rw [f h]

end KeepsQueues

variable {s u : State}

/-- What is not the Job Table's share of an open report keeps the queues. -/
theorem takeShare_keepsQueues (x : CompletionShare)
    (hx : x = .job → ∀ c ∈ s.completion, .job ∉ c.left) : s.KeepsQueues (s.takeShare x) := by
  rcases s.takeShare_cases x with e | ⟨c, hc, hm, ⟨rfl, e⟩ | ⟨rfl, -⟩ | ⟨rfl, -, e⟩⟩
  · rw [e]; exact .refl s
  · rw [e]
    exact KeepsQueues.trans (t := (s.leave .watch).watchShare c.report)
      (.of_share (s := s.leave .watch) fun _ => watchShare_share ..) (.of_engine (schedule_engine _))
  · exact absurd hm (hx rfl c hc)
  · rw [e]
    exact .of_engine (s := s.leave .select) (schedule_engine _)

theorem foldl_takeShare_keepsQueues {l : List CompletionShare}
    (h : .job ∉ l ∨ ∀ c ∈ s.completion, .job ∉ c.left) : s.KeepsQueues (l.foldl State.takeShare s) := by
  induction l generalizing s with
  | nil => exact .refl s
  | cons x l ih =>
    refine (s.takeShare_keepsQueues x fun e => ?_).trans (ih ?_)
    · exact h.resolve_left fun hn => hn (by simp [e])
    · refine h.imp (fun hn hm => hn (List.mem_cons_of_mem x hm)) fun hn d hd hj => ?_
      obtain ⟨c, hc, -, hsub⟩ := s.takeShare_left hd
      exact hn c hc (hsub.subset hj)

/-- The end of a pass and the next entry keep the queues that the offer has left. -/
theorem endPass_keepsQueues (s : State) (j : Job) : s.KeepsQueues (s.endPass j) := by
  obtain ⟨⟨-, -, -, hresults⟩, -⟩ := (s.closePass j).dispose_cases j.endPass
  rw [endPass_eq]
  intro h
  have := (s.closePass_engine j).queue h
  rwa [show ((s.closePass j).dispose j.endPass).resultQueue h = (s.closePass j).resultQueue h from
    congrArg (·.get h) hresults]

theorem jobShare_keepsQueues {r : Report} {j : Job} (hj : s.findJob r.job = some j) :
    (s.offerRecord j r).KeepsQueues (s.jobShare r) := by
  have hid := s.findJob_id hj
  obtain ⟨k, hk, -⟩ := s.findJob_offerRecord_isSome r (hid ▸ hj)
  rw [hid] at hk
  by_cases hl : j.cursor + 1 < j.entries.length
  · rw [s.jobShare_advances hj hk hl]; exact .refl _
  · rw [s.jobShare_ends hj hk (Nat.le_of_not_lt hl)]; exact endPass_keepsQueues _ k

/-! ### What the reported job meets before its share (R36, R110) -/

/-- The converter is idle and the job stands as `j`, but for the marks that arrivals leave; where `full`
holds, its account has a place left. -/
structure Meets (j : Job) (full : Prop) (u : State) : Prop where
  idle : u.converter = none
  job : ∃ k, u.findJob j.id = some k ∧ j.Marked k
  account : full → ∃ m, u.account j.id.owner j.cls = some (m + 1)

namespace Meets

variable {j : Job} {full : Prop}

theorem post (h : Meets j full u) (g : HostId) (kind : NoticeKind) (subject : Byte) (detail : Nat) :
    Meets j full (u.post g kind subject detail) := by
  rw [post_rest]
  exact ⟨h.idle, h.job, h.account⟩

theorem setWatch (h : Meets j full u) (w : WatchId) (x : Watch) : Meets j full (u.setWatch w x) :=
  ⟨h.idle, h.job, h.account⟩

theorem setReady (h : Meets j full u) (c : JobClass) (ids : List JobId) : Meets j full (u.setReady c ids) :=
  ⟨h.idle, h.job, h.account⟩

/-- Another job's record may change. -/
theorem updateJob_ne (h : Meets j full u) {id : JobId} (hne : id ≠ j.id) {f : Job → Job}
    (hf : ∀ k, (f k).id = k.id) : Meets j full (u.updateJob id f) := by
  obtain ⟨k, hk, hm⟩ := h.job
  exact ⟨h.idle, ⟨k, (u.findJob_updateJob_ne hf hne.symm).trans hk, hm⟩, h.account⟩

/-- The job's own marks may change. -/
theorem mark (h : Meets j full u) (id : JobId) {f : Job → Job} (hf : ∀ k, Job.Marked k (f k)) :
    Meets j full (u.updateJob id f) := by
  have hid (k : Job) : (f k).id = k.id := by rw [hf k]
  by_cases e : id = j.id
  · obtain ⟨k, hk, hm⟩ := h.job
    subst e
    exact ⟨h.idle, ⟨f k, findJob_update hid rfl hk, hm.trans (hf k)⟩, h.account⟩
  · exact h.updateJob_ne e hid

theorem overrun (h : Meets j full u) (l : Job) : Meets j full (u.overrun l) := by
  unfold State.overrun
  dsimp only
  split
  · exact h.mark _ fun _ => rfl
  · exact (h.post ..).mark _ fun _ => rfl

/-- An account of a pass that restarts is topped up, never drawn on (R80). -/
theorem topUp (h : Meets j full u) {g : HostId} {c : JobClass} {held n : Nat}
    (ha : u.account g c = some held) : Meets j full (u.setAccount g c (some (held + n))) := by
  refine ⟨h.idle, h.job, fun hf => ?_⟩
  obtain ⟨m, hm⟩ := h.account hf
  rw [setAccount_account]
  split
  · next e =>
    rw [← e.1, ← e.2, hm] at ha
    cases ha
    exact ⟨m + n, by rw [Nat.add_right_comm]⟩
  · exact ⟨m, hm⟩

/-- While the reported job is RUNNING with the converter idle, an arrival at it is held, or an overrun;
an arrival at another job leaves it alone (R110). -/
theorem arrival (h : Meets j full u) (hr : j.state = .running) (id : JobId) : Meets j full (u.arrival id) := by
  have running {l : Job} (hl : u.findJob j.id = some l) : l.state = .running := by
    obtain ⟨k, hk, hm⟩ := h.job
    cases hk.symm.trans hl
    rw [hm]
    exact hr
  unfold State.arrival
  split
  · exact h
  · next l hl =>
    have hid := u.findJob_id hl
    split
    · next ha =>
      refine (h.updateJob_ne (fun e => ?_) (by intro; rfl)).setReady ..
      rw [running (e ▸ hl)] at ha
      cases ha
    · exact h.overrun l
    · unfold State.holdArrival
      split
      · exact h.overrun l
      · exact h.mark _ fun _ => rfl
    · exact h.overrun l
    · have restarted {v : State} (hv : Meets j full v) (hne : l.id ≠ j.id) : Meets j full (v.acceptRestart l) := by
        have ha : Meets j full (if v.executes l.id then v.abort else v) := by
          split
          · exact ⟨rfl, hv.job, hv.account⟩
          · exact hv
        exact ha.updateJob_ne hne (by intro; rfl)
      by_cases hne : l.id = j.id
      · have hrun := running (hne ▸ hid ▸ hl)
        have : u.restartPass l = u.overrun l :=
          if_pos ⟨hrun, by simp [executes, h.idle]⟩
        rw [this]
        exact h.overrun l
      · rcases u.restartPass_cases l with ⟨-, -, e⟩ | ⟨-, ⟨-, e⟩ | ⟨held, ha, e⟩⟩
        · rw [e]; exact h.overrun l
        · rw [e]; exact restarted h hne
        · rw [e]
          split
          · exact restarted (h.topUp ha) hne
          · exact h.overrun l

theorem deliver (h : Meets j full u) (hr : j.state = .running) (hits : Source → Bool) :
    Meets j full (u.deliver hits) :=
  State.foldl_keeps u (fun _ id hu => hu.arrival hr id) _ h

theorem watchShare (h : Meets j full u) (hr : j.state = .running) (r : Report) :
    Meets j full (u.watchShare r) := by
  unfold State.watchShare
  split
  · refine State.foldl_keeps u (fun v w hv => ?_) _ h
    unfold State.offerWatch
    split
    · split
      · unfold State.evaluate
        dsimp only
        split
        · exact ((hv.setWatch ..).post ..).deliver hr _
        · split
          · exact (hv.setWatch ..).post ..
          · exact hv.setWatch ..
      · exact hv
    · exact hv
  · exact h

end Meets

/-! ### The watches (R117, R121) -/

/-- The watch once it has evaluated a code (R118, R119). -/
def evaluated (s : State) (v : Code) (w : WatchId) : Watch :=
  { s.watch w with state := (s.watch w).next v }

theorem offerWatch_watch (r : Report) (x w : WatchId) :
    (State.offerWatch r s x).watch w =
      if w = x ∧ (s.watch w).owner ≠ none ∧ (s.watch w).channel = r.channel then s.evaluated r.value w
      else s.watch w := by
  have other {u : State} (hu : u.watch w = s.watch w) (h : ¬ (w = x ∧ (s.watch w).owner ≠ none ∧
      (s.watch w).channel = r.channel)) : u.watch w =
      if w = x ∧ (s.watch w).owner ≠ none ∧ (s.watch w).channel = r.channel then s.evaluated r.value w
      else s.watch w := by rw [if_neg h, hu]
  unfold offerWatch
  split
  · next g hg =>
    split
    · next hc =>
      rw [evaluate_watch]
      by_cases e : w = x
      · subst e
        rw [if_pos rfl, if_pos ⟨rfl, by simp [hg], hc⟩]
        exact rfl
      · rw [if_neg e, if_neg fun h : w = x ∧ _ => e h.1]
    · next hc => exact other rfl fun h => hc (h.1 ▸ h.2.2)
  · next hg => exact other rfl fun h => h.2.1 (h.1 ▸ hg)

theorem foldl_offerWatch_watch (r : Report) {l : List WatchId} (hl : l.Nodup) (s : State) (w : WatchId) :
    (l.foldl (State.offerWatch r) s).watch w =
      if w ∈ l ∧ (s.watch w).owner ≠ none ∧ (s.watch w).channel = r.channel then s.evaluated r.value w
      else s.watch w := by
  induction l generalizing s with
  | nil => simp
  | cons x l ih =>
    obtain ⟨hx, hl⟩ := List.nodup_cons.mp hl
    have one := s.offerWatch_watch r x w
    rw [List.foldl_cons, ih hl]
    by_cases e : w = x
    · rw [if_neg fun h : w ∈ l ∧ _ => hx (e ▸ h.1), one]
      exact if_congr (and_congr_left fun _ => by simp [e]) rfl rfl
    · rw [if_neg fun h : w = x ∧ _ => e h.1] at one
      unfold evaluated
      rw [one]
      exact if_congr (and_congr_left fun _ => by simp [e]) rfl rfl

theorem watchShare_watch (r : Report) (w : WatchId) :
    (s.watchShare r).watch w =
      if r.kind = .convert ∧ (s.watch w).owner ≠ none ∧ (s.watch w).channel = r.channel then
        s.evaluated r.value w
      else s.watch w := by
  have hmem : w ∈ allWatches := by revert w; decide
  unfold watchShare
  cases hk : r.kind with
  | convert =>
    dsimp only
    rw [foldl_offerWatch_watch r (by decide)]
    exact if_congr (by simp [hmem]) rfl rfl
  | compare => simp

end State
end Sys2Proof.Machine

/-! PROOFS. The shares of a completion taken in any order (sections 3.4, 3.5, 4.3, 6.3): which are still
left, which watches have evaluated, and what the reported job's record meets. -/

namespace Sys2Proof.Machine
namespace State

variable {s u : State} {c d : Completion} {x y : CompletionShare} {l : List CompletionShare}

/-! ### Which shares are still left (R57) -/

/-- What has not been asked for stays left. -/
theorem takeShare_stays (hc : s.completion = some c) (hy : y ∈ c.left) (hne : x ≠ y) :
    ∃ d, (s.takeShare x).completion = some d ∧ d.report = c.report ∧ y ∈ d.left ∧ d.left.Sublist c.left := by
  rw [s.takeShare_completion hc]
  split
  · have hm : y ∈ c.left.erase x := (List.mem_erase_of_ne hne.symm).mpr hy
    refine ⟨{ c with left := c.left.erase x }, if_neg (List.ne_nil_of_mem hm), rfl, hm, List.erase_sublist⟩
  · exact ⟨c, rfl, rfl, hy, .refl _⟩

theorem foldl_takeShare_stays (hc : s.completion = some c) (hy : y ∈ c.left) (hl : y ∉ l) :
    ∃ d, (l.foldl State.takeShare s).completion = some d ∧ d.report = c.report ∧ y ∈ d.left ∧
      d.left.Sublist c.left := by
  induction l generalizing s c with
  | nil => exact ⟨c, hc, rfl, hy, .refl _⟩
  | cons x l ih =>
    obtain ⟨hx, hl⟩ := not_or.mp (List.mem_cons.not.mp hl)
    obtain ⟨d, hd, hr, hm, hs⟩ := takeShare_stays hc hy fun e => hx e.symm
    obtain ⟨e, he, hr', hm', hs'⟩ := ih hd hm hl
    exact ⟨e, he, hr'.trans hr, hm', hs'.trans hs⟩

theorem foldl_takeShare_nonempty (h : ∀ c ∈ s.completion, c.left ≠ []) :
    ∀ d ∈ (l.foldl State.takeShare s).completion, d.left ≠ [] := by
  induction l generalizing s with
  | nil => exact h
  | cons x l ih =>
    refine ih fun d hd => ?_
    obtain ⟨c, hc, -, -⟩ := s.takeShare_left hd
    rw [Option.mem_def, s.takeShare_completion hc] at hd
    split at hd
    · exact (without_some hd).2.2
    · cases hd; exact h _ hc

/-- A completion taken from its report is whole exactly when both shares have been asked for: the
selection closes every row. -/
theorem takeShares_whole (hc : s.completion = some c) (hall : c.left = allShares) (l : List CompletionShare) :
    (s.takeShares l).completion = none ↔ .watch ∈ l ∧ .job ∈ l := by
  have hn : ∀ c ∈ s.completion, c.left.Nodup := fun d hd => by
    cases hc.symm.trans hd; rw [hall]; decide
  have asked (x) (hx : x ∈ c.left) (hne : x ≠ .select) (h : (s.takeShares l).completion = none) : x ∈ l := by
    by_contra hno
    obtain ⟨d, hd, -⟩ := foldl_takeShare_stays (l := l ++ [.select]) hc hx (by simp [hno, hne])
    exact nomatch h.symm.trans hd
  refine ⟨fun h => ⟨asked _ (by rw [hall]; decide) (by decide) h, asked _ (by rw [hall]; decide) (by decide) h⟩,
    fun ⟨hw, hj⟩ => ?_⟩
  rw [Option.eq_none_iff_forall_not_mem]
  intro d hd
  have taken {x : CompletionShare} (hne : x ≠ .select) (hx : x ∈ l) : x ∉ d.left :=
    foldl_takeShare_taken hne (List.mem_append_left _ hx) hn d hd
  have hsel : .select ∉ d.left := fun h => taken (by decide) hj (takeShares_balanced hn l d hd h)
  refine foldl_takeShare_nonempty (fun e he => ?_) d hd (List.eq_nil_iff_forall_not_mem.mpr fun x => ?_)
  · cases hc.symm.trans he; rw [hall]; decide
  · cases x
    · exact taken (by decide) hw
    · exact taken (by decide) hj
    · exact hsel

/-! ### The watches (R117, R121) -/

theorem dispose_watch (s : State) (j : Job) (w : WatchId) : (s.dispose j).watch w = s.watch w := by
  unfold dispose
  split
  · dsimp only
    rw [post_rest]
    exact rfl
  · repeat (split; · exact rfl)
    exact rfl

/-- The Job Table's share leaves the watches. -/
theorem jobShare_watch (s : State) (r : Report) (w : WatchId) : (s.jobShare r).watch w = s.watch w := by
  cases hj : s.findJob r.job with
  | none => rw [s.jobShare_none hj]
  | some j =>
    have ho : (s.offerRecord j r).watch w = s.watch w := by
      unfold offerRecord
      split
      · rw [(s.offer_rest ..).1]; exact rfl
      · exact rfl
    rw [s.jobShare_some hj]
    split
    · exact ho
    · next k _ =>
      split
      · rw [endPass_eq, dispose_watch, (closePass_engine _ k).watch, ho]
      · exact ho

/-- What of one share taken is left to the watches: the watch unit's share alone reaches them. -/
theorem takeShare_watch (hc : s.completion = some c) (hw : x = .watch → .watch ∈ c.left) (w : WatchId) :
    (s.takeShare x).watch w =
      if x = .watch ∧ c.report.kind = .convert ∧ (s.watch w).owner ≠ none ∧
          (s.watch w).channel = c.report.channel then s.evaluated c.report.value w
      else s.watch w := by
  cases x with
  | watch =>
    have e : s.takeShare .watch = ((s.leave .watch).watchShare c.report).schedule := by
      simp [takeShare, hc, hw rfl]
    have hleave : (s.leave .watch).watch w = s.watch w := rfl
    rw [e, (schedule_engine _).watch, watchShare_watch, hleave]
    exact if_congr (by simp) rfl rfl
  | job =>
    rw [if_neg (by simp)]
    rcases s.takeShare_cases .job with e | ⟨d, -, -, ⟨h, -⟩ | ⟨-, e⟩ | ⟨h, -⟩⟩
    · rw [e]
    · cases h
    · rw [e]; exact s.jobShare_watch d.report w
    · cases h
  | select =>
    rw [if_neg (by simp)]
    rcases s.takeShare_cases .select with e | ⟨d, -, -, ⟨h, -⟩ | ⟨h, -⟩ | ⟨-, -, e⟩⟩
    · rw [e]
    · cases h
    · cases h
    · rw [e, (schedule_engine _).watch]; exact rfl

/-- A watch that has had its share keeps what it evaluated. -/
theorem foldl_takeShare_watch_taken (h : ∀ c ∈ s.completion, .watch ∉ c.left) (w : WatchId) :
    (l.foldl State.takeShare s).watch w = s.watch w := by
  induction l generalizing s with
  | nil => rfl
  | cons x l ih =>
    rw [List.foldl_cons, ih fun d hd hm => ?_]
    · rcases s.takeShare_cases x with e | ⟨c, hc, hx, ⟨rfl, -⟩ | ⟨rfl, e⟩ | ⟨rfl, -, e⟩⟩
      · rw [e]
      · exact absurd hx (h c hc)
      · rw [e]; exact s.jobShare_watch c.report w
      · rw [e, (schedule_engine _).watch]; exact rfl
    · obtain ⟨c, hc, -, hs⟩ := s.takeShare_left hd
      exact h c hc (hs.subset hm)

/-- The watches that take part have evaluated once their share has been asked for, and only then. -/
theorem foldl_takeShare_watch (hc : s.completion = some c) (hn : c.left.Nodup) (hm : .watch ∈ c.left)
    (w : WatchId) :
    (l.foldl State.takeShare s).watch w =
      if .watch ∈ l ∧ c.report.kind = .convert ∧ (s.watch w).owner ≠ none ∧
          (s.watch w).channel = c.report.channel then s.evaluated c.report.value w
      else s.watch w := by
  induction l generalizing s c with
  | nil => simp
  | cons x l ih =>
    have one := takeShare_watch (x := x) hc (fun _ => hm) w
    rw [List.foldl_cons]
    by_cases hx : x = .watch
    · rw [foldl_takeShare_watch_taken fun d hd => ?_, one]
      · exact if_congr (by simp [hx]) rfl rfl
      · subst hx
        rw [Option.mem_def, s.takeShare_completion hc, if_pos ⟨hm, by simp⟩] at hd
        rw [(without_some hd).2.1]
        exact hn.not_mem_erase
    · obtain ⟨d, hd, hr, hm', hs⟩ := takeShare_stays hc hm hx
      rw [if_neg fun h => hx h.1] at one
      rw [ih hd (hn.sublist hs) hm', hr]
      unfold evaluated
      rw [one]
      exact if_congr (by simp [Ne.symm hx]) rfl rfl

/-! ### The reported job's record (R19, R75, R76) -/

/-- While the Job Table's share is left, an idle converter stays idle (R35). -/
theorem schedule_waiting (hc : s.completion = some c) (hj : .job ∈ c.left) (hi : s.converter = none) :
    s.schedule = s := by
  rw [s.schedule_quiet (s.urgentWaits_idle hi), s.select_waits (selectionWaits_iff.mpr ⟨c, hc, hj⟩)]

theorem Meets.leave {j : Job} {full : Prop} (h : Meets j full s) (x : CompletionShare) :
    Meets j full (s.leave x) :=
  ⟨h.idle, h.job, h.account⟩

/-- What comes before the Job Table's share leaves the reported job to it (R36, R110). -/
theorem Meets.before {j : Job} {full : Prop} (h : Meets j full s) (hr : j.state = .running)
    (hc : s.completion = some c) (hj : .job ∈ c.left) (hl : .job ∉ l) :
    Meets j full (l.foldl State.takeShare s) := by
  induction l generalizing s c with
  | nil => exact h
  | cons x l ih =>
    obtain ⟨hx, hl⟩ := not_or.mp (List.mem_cons.not.mp hl)
    obtain ⟨d, hd, -, hm, -⟩ := takeShare_stays hc hj fun e => hx e.symm
    refine ih ?_ hd hm hl
    rcases s.takeShare_cases x with e | ⟨b, hb, -, ⟨rfl, e⟩ | ⟨rfl, -⟩ | ⟨rfl, hno, -⟩⟩
    · rw [e]; exact h
    · have hv := (h.leave .watch).watchShare hr b.report
      rw [e] at hd ⊢
      generalize (s.leave .watch).watchShare b.report = v at hv hd ⊢
      rw [(schedule_engine v).completion] at hd
      rw [schedule_waiting hd hm hv.idle]
      exact hv
    · exact absurd rfl hx
    · cases hc.symm.trans hb
      exact absurd hj hno

/-- With the Job Table's share the record is offered; what follows keeps the queues that it leaves. -/
theorem foldl_job_keepsQueues {j : Job} (hc : s.completion = some c) (hn : c.left.Nodup) (hm : .job ∈ c.left)
    (hj : s.findJob c.report.job = some j) :
    (s.offerRecord j c.report).KeepsQueues ((.job :: l).foldl State.takeShare s) := by
  have e : s.takeShare .job =
      ((s.jobShare c.report).updateJob c.report.job Job.awaitSelection).leave .job := by
    simp [takeShare, takeJobShare, hc, hm]
  have share : (s.offerRecord j c.report).KeepsQueues (s.takeShare .job) := by
    rw [e]
    exact jobShare_keepsQueues hj
  refine share.trans (foldl_takeShare_keepsQueues (.inr fun d hd => ?_))
  rw [Option.mem_def, s.takeShare_completion hc, if_pos ⟨hm, by simp⟩] at hd
  rw [(without_some hd).2.1]
  exact hn.not_mem_erase

/-- The queue of an offered record that finds a place (R70, R75, R83). -/
theorem offerRecord_placed {j : Job} (hd : j.dest = .queue) (r : Report) (hp : s.Places j.id.owner j.cls) :
    let record := (j.record r (decide (j.entries.length ≤ j.cursor + 1))).sealed
    ((s.offerRecord j r).resultQueue j.id.owner).records = (s.resultQueue j.id.owner).records ++ [record] ∧
    ((s.offerRecord j r).resultQueue j.id.owner).discarded = (s.resultQueue j.id.owner).discarded ∧
    ((s.offerRecord j r).resultQueue j.id.owner).staleMark =
      if (s.resultQueue j.id.owner).records = [] then
        decide ((s.session j.id.owner).options.staleInterval ≠ 0 ∧
          (s.session j.id.owner).options.staleInterval ≤ (s.timebase - r.timestamp).toNat)
      else (s.resultQueue j.id.owner).staleMark := by
  intro record
  obtain ⟨a, e⟩ := s.offer_placed (j.record r (decide (j.entries.length ≤ j.cursor + 1))) hp
  have hq (q : ResultQueue) : ((s.setResultQueue j.id.owner q).updateJob j.id Job.countPlaced).resultQueue
      j.id.owner = q := setResultQueue_resultQueue_self ..
  rw [s.offerRecord_queue hd, e, hq, headReached_eq]
  exact ⟨rfl, rfl, rfl⟩

/-- The queue of an offered record that finds none (R76, R77). -/
theorem offerRecord_dropped {j : Job} (hd : j.dest = .queue) (r : Report) (hp : ¬ s.Places j.id.owner j.cls) :
    ((s.offerRecord j r).resultQueue j.id.owner).records = (s.resultQueue j.id.owner).records ∧
    ((s.offerRecord j r).resultQueue j.id.owner).discarded =
      min 65535 ((s.resultQueue j.id.owner).discarded + 1) ∧
    ((s.offerRecord j r).resultQueue j.id.owner).staleMark = (s.resultQueue j.id.owner).staleMark := by
  have hq (q : ResultQueue) : ((s.setResultQueue j.id.owner q).updateJob j.id Job.countDropped).resultQueue
      j.id.owner = q := setResultQueue_resultQueue_self ..
  rw [s.offerRecord_queue hd, s.offer_dropped _ hp, hq]
  exact ⟨rfl, rfl, rfl⟩

end State
end Sys2Proof.Machine

/-! PROOFS. The completion of a conversion, its records and URGENT preemption (sections 2.7, 3.4, 3.5,
4.1, 4.3). -/

namespace Sys2Proof.Machine
namespace State

variable {s u : State}

/-- A selection waited for leaves the RUNNING job of the report SUSPENDED (R36). -/
theorem updateJob_awaitSelection (s : State) (id : JobId) :
    s.updateJob id Job.awaitSelection =
      { s with jobs := s.jobs.map fun k =>
          if k.id = id ∧ k.state = .running then { k with state := .suspended } else k } := by
  unfold updateJob setJobs
  congr 1
  refine List.map_congr_left fun k _ => ?_
  unfold Job.awaitSelection
  by_cases h : k.id = id <;> simp [h]

theorem takeShare_job_eq {c : Completion} (hc : s.completion = some c) (hm : .job ∈ c.left) :
    s.takeShare .job =
      { (s.jobShare c.report).updateJob c.report.job Job.awaitSelection with
        completion := c.without .job } := by
  have hcompl : ((s.jobShare c.report).updateJob c.report.job Job.awaitSelection).completion = some c := by
    rw [(awaitSelection_engine ..).completion, (s.jobShare_share _).completion, hc]
  have e : s.takeShare .job =
      ((s.jobShare c.report).updateJob c.report.job Job.awaitSelection).leave .job := by
    simp [takeShare, takeJobShare, hc, hm]
  rw [e]
  unfold leave
  rw [hcompl]
  rfl

/-- The report of a completion handed on: the converter is idle, the latest value of a CONVERT is in, and
all that follows the report is left (R57, R66). -/
theorem handOn_eq {ctx : Context} {ts : Timestamp} {held : AnalogInput} (hn : s.completion = none)
    (hc : s.converter = some ctx) (hp : ctx.phase = .converting ts held) :
    s.handOn =
      { s with
        converter := none
        channels := ((s.setConverter none).channelShare (ctx.report ts held)).channels
        completion := some ⟨ctx.report ts held, allShares⟩ } := by
  have e : s.handOn = ((s.setConverter none).channelShare (ctx.report ts held)).setCompletion
      (some ⟨ctx.report ts held, allShares⟩) := by
    simp [handOn, hn, hc, hp]
  rw [e, ((s.setConverter none).channelShare_channels _).1]
  rfl

/-- In the other states no conversion can end (R57). -/
theorem handOn_none (hc : ∀ ctx ∈ s.converter, ctx.phase = .sampling) :
    s.handOn = s := by
  rcases s.handOn_cases with e | ⟨ctx, ts, held, -, hx, hp, -⟩
  · exact e
  · rw [hc ctx hx] at hp
    cases hp

theorem handOn_some {c : Completion} (hc : s.completion = some c) : s.handOn = s := by
  simp [handOn, hc]

/-- The latest values once the report is handed on (R66, R67). -/
theorem channelShare_eq (s : State) (r : Report) :
    (s.channelShare r).channels =
      s.channels.put r.channel (if r.kind = .convert then (s.channel r.channel).update r
        else s.channel r.channel) := by
  unfold channelShare
  cases hk : r.kind
  · exact rfl
  · exact (Table.put_get ..).symm

section InOrder

variable {c : Completion} {j : Job} {l : List CompletionShare} (hc : s.completion = some c)
  (hn : c.left.Nodup) (hm : .job ∈ c.left) (hi : s.converter = none)
  (hj : s.findJob c.report.job = some j) (hrun : j.state = .running)
include hc hn hm hi hj hrun

/-- The Job Table's share finds the reported job as its report left it, but for the marks of arrivals,
and the queues as they were; what follows keeps the queues that it leaves (R36, R57, R110). -/
theorem takeShares_offers (hl : .job ∈ l) {full : Prop}
    (hfull : full → ∃ m, s.account j.id.owner j.cls = some (m + 1)) :
    ∃ u k, j.Marked k ∧ (full → ∃ m, u.account j.id.owner j.cls = some (m + 1)) ∧ s.KeepsQueues u ∧
      u.sessions = s.sessions ∧ u.timebase = s.timebase ∧
      (u.offerRecord k c.report).KeepsQueues (s.takeShares l) := by
  obtain ⟨a, b, rfl, ha⟩ := List.eq_append_cons_of_mem hl
  have hid := s.findJob_id hj
  have meets : Meets j full (a.foldl State.takeShare s) :=
    Meets.before ⟨hi, ⟨j, hid ▸ hj, rfl⟩, hfull⟩ hrun hc hm ha
  obtain ⟨d, hd, hr, hdm, hsub⟩ := foldl_takeShare_stays hc hm ha
  have frame := s.foldl_takeShare_shares (g := c.report.job.owner)
    (fun e he => by cases hc.symm.trans he; rfl) a
  obtain ⟨k, hk, hmark⟩ := meets.job
  have kept := foldl_job_keepsQueues (l := b ++ [.select]) hd (hn.sublist hsub) hdm
    (hr ▸ hid ▸ hk)
  rw [hr] at kept
  refine ⟨_, k, hmark, meets.account, foldl_takeShare_keepsQueues (.inl ha), frame.sessions, frame.timebase, ?_⟩
  unfold takeShares
  rw [List.append_assoc, List.cons_append, List.foldl_append]
  exact kept

theorem takeShares_table (hd : j.dest = .table) (l : List CompletionShare) :
    s.KeepsQueues (s.takeShares l) := by
  by_cases hl : .job ∈ l
  · obtain ⟨u, k, hk, -, hu, -, -, ht⟩ := takeShares_offers hc hn hm hi hj hrun hl (full := False) False.elim
    rw [u.offerRecord_table (by rw [hk]; exact hd)] at ht
    exact hu.trans ht
  · exact foldl_takeShare_keepsQueues (.inl (by simp [hl]))

/-- With a place left in its account the record joins the tail of its owner's queue (R75, R83). -/
theorem takeShares_placed (hd : j.dest = .queue) (hl : .job ∈ l) {n : Nat}
    (ha : s.account j.id.owner j.cls = some (n + 1)) :
    ((s.takeShares l).resultQueue j.id.owner).records = (s.resultQueue j.id.owner).records ++
      [(j.record c.report (decide (j.entries.length ≤ j.cursor + 1))).sealed] ∧
    ((s.takeShares l).resultQueue j.id.owner).staleMark =
      if (s.resultQueue j.id.owner).records = [] then
        decide ((s.session j.id.owner).options.staleInterval ≠ 0 ∧
          (s.session j.id.owner).options.staleInterval ≤ (s.timebase - c.report.timestamp).toNat)
      else (s.resultQueue j.id.owner).staleMark := by
  obtain ⟨u, k, hk, hm, hu, hsess, htime, ht⟩ :=
    takeShares_offers hc hn hm hi hj hrun hl (full := True) fun _ => ⟨n, ha⟩
  have hid : k.id = j.id := by rw [hk]
  have hcls : k.cls = j.cls := by rw [hk]
  have hrec (last) : k.record c.report last = j.record c.report last := by rw [hk]; rfl
  have hlast : decide (k.entries.length ≤ k.cursor + 1) = decide (j.entries.length ≤ j.cursor + 1) := by
    rw [hk]
  obtain ⟨hrecords, -, hstale⟩ := u.offerRecord_placed (j := k) (by rw [hk]; exact hd) c.report
    (.inl (by rw [hid, hcls]; exact hm trivial))
  have hsession : u.session j.id.owner = s.session j.id.owner := congrArg (·.get j.id.owner) hsess
  rw [hid] at hrecords hstale
  rw [ht.records, ht.staleMark, hrecords, hstale, hrec, hlast, hu.records, hu.staleMark, hsession, htime]
  exact ⟨rfl, rfl⟩

end InOrder
end State

theorem mem_allShares (x : CompletionShare) : x ∈ allShares := by
  cases x <;> decide

theorem allShares_nodup : allShares.Nodup := by decide

/-- The twelve bytes of a sealed record sum to 0 (R70). -/
theorem ResultRecord.byteSum_sealed (r : ResultRecord) : byteSum r.sealed.bytes = 0 := by
  have hbody : r.sealed.body = r.body := rfl
  unfold ResultRecord.bytes byteSum
  rw [hbody, List.foldl_append]
  exact BitVec.add_right_neg _

/-- The report of a conversion (R57). -/
theorem Context.report_eq (ctx : Context) (ts : Timestamp) (held : AnalogInput) :
    ctx.report ts held =
      { job := ctx.job, index := ctx.index, channel := ctx.channel, kind := ctx.kind, value := ctx.value held,
        timestamp := ts, fast := decide (ctx.kind = .convert ∧ ctx.rate = some .fast) } := by
  have hfast : (ctx.kind == .convert && ctx.rate == some .fast) =
      decide (ctx.kind = .convert ∧ ctx.rate = some .fast) := by
    rw [Bool.eq_iff_iff]
    simp
  unfold Context.report
  rw [hfast]

/-- Settles O46, from what each share does and what it leaves to the others. -/
theorem aCompletionUpdatesChannelAndQueue : Obligations.ACompletionUpdatesChannelAndQueue := by
  intro shares s watches awaiting take
  have hwatches (r u) : watches r u = State.watchShare u r := by
    unfold State.watchShare
    cases hk : r.kind
    · exact if_pos hk
    · exact if_neg (by rw [hk]; decide)
  have hleave {u : State} {c : Completion} (hc : u.completion = some c) (x : CompletionShare) :
      u.leave x = { u with completion := c.without x } := by
    unfold State.leave
    rw [hc]
    rfl
  have htake : take = State.takeShare := by
    funext u x
    cases hc : u.completion with
    | none => simp only [take, State.takeShare, hc]
    | some c =>
      by_cases hx : x ∈ c.left
      · simp only [take, hc, hx, not_true_eq_false, if_false]
        cases x with
        | watch =>
          have e : u.takeShare .watch = ((u.leave .watch).watchShare c.report).schedule := by
            simp [State.takeShare, hc, hx]
          rw [e, hleave hc]
          exact congrArg State.schedule (hwatches ..)
        | job =>
          rw [State.takeShare_job_eq hc hx, State.updateJob_awaitSelection]
          exact rfl
        | select =>
          by_cases hj : .job ∈ c.left
          · simp [State.takeShare, hc, hj]
          · have e : u.takeShare .select = (u.leave .select).schedule := by
              simp [State.takeShare, hc, hx, hj]
            rw [e, hleave hc]
            exact if_neg hj
      · simp [take, State.takeShare, hc, hx]
  rw [htake]
  refine ⟨fun c hc => ?_, fun hn hs => ?_, fun c hc hj => ?_, fun c removed hc => ?_, ?_⟩
  · rw [exec_conversionComplete, State.handOn_some hc]
    exact rfl
  · rw [exec_conversionComplete, State.handOn_none hs, State.takeShares_none s hn]
  · exact s.select_waits (State.selectionWaits_iff.mpr ⟨c, hc, hj⟩)
  · unfold State.settle
    rw [hc]
    exact rfl
  intro ctx ts held hn hc hp v report latest reported
  have hreport : ctx.report ts held = report := ctx.report_eq ts held
  have hlatest (c : ChannelId) : reported.channel c = latest c := by
    refine (Table.get_put ..).trans ?_
    split
    · next e => rw [e]
    · next e => exact (if_neg fun h => e h.2).symm
  have hchannels : ((s.setConverter none).channelShare (ctx.report ts held)).channels = reported.channels := by
    rw [State.channelShare_eq]
    refine congrArg (s.channels.put ctx.channel) ?_
    exact if_congr (by simp [Context.report]) rfl rfl
  have hreported : s.handOn = reported := by
    rw [State.handOn_eq hn hc hp, hchannels, hreport]
    exact rfl
  have frame : reported.SharesFrame ctx.job.owner (reported.takeShares shares) :=
    State.takeShares_shares _ (fun c hc => by cases hc; rfl) shares
  refine ⟨reported.takeShares shares, by rw [exec_conversionComplete, hreported], rfl, fun c => ?_,
    fun w => ?_, frame.sessions, frame.ports, frame.generators,
    State.takeShares_whole (c := ⟨report, allShares⟩) rfl rfl shares, fun j hj hrun => ?_⟩
  · rw [← hlatest]
    exact congrArg (·.get c) frame.channels
  · rw [show (reported.takeShares shares).watch w = _ from
      State.foldl_takeShare_watch (c := ⟨report, allShares⟩) rfl allShares_nodup (mem_allShares _) w,
      State.evaluate_watch, if_pos rfl]
    exact if_congr (and_congr (by simp) Iff.rfl) rfl rfl
  intro q r interval
  have hid := s.findJob_id hj
  have rest (h : HostId) (hh : h ≠ ctx.job.owner) :
      ((reported.takeShares shares).resultQueue h).records = (s.resultQueue h).records := by
    rw [frame.share.queue h hh]
    exact rfl
  refine ⟨rest, fun hd h => ?_, fun hd hl n ha => ?_⟩
  · rcases hd with hd | hl
    · exact (State.takeShares_table (s := reported) (c := ⟨report, allShares⟩) rfl allShares_nodup
        (mem_allShares _)
        rfl hj hrun hd shares).records h
    · exact (State.foldl_takeShare_keepsQueues (s := reported) (.inl (by simp [hl]))).records h
  · have := State.takeShares_placed (s := reported) (c := ⟨report, allShares⟩) rfl allShares_nodup
        (mem_allShares _)
      rfl hj hrun hd hl (n := n) (by rw [hid]; exact ha)
    rw [hid] at this
    exact this

/-- A record without a reservation, its share taken first: it takes a free place, or is dropped and
counted (R76, R77, R83). -/
theorem State.takeShares_unreserved {s : State} {c : Completion} {j : Job} (hc : s.completion = some c)
    (hall : c.left = allShares) (hj : s.findJob c.report.job = some j) (hd : j.dest = .queue)
    (ha : s.account j.id.owner j.cls = none) (l : List CompletionShare) :
    let q := s.resultQueue j.id.owner
    let t := (s.takeShares (.job :: l)).resultQueue j.id.owner
    let record := (j.record c.report (decide (j.entries.length ≤ j.cursor + 1))).sealed
    let interval := (s.session j.id.owner).options.staleInterval
    if q.records.length + q.reserved < 64 then
      t.records = q.records ++ [record] ∧ t.discarded = q.discarded ∧
      t.staleMark =
        if q.records = [] then decide (interval ≠ 0 ∧ interval ≤ (s.timebase - c.report.timestamp).toNat)
        else q.staleMark
    else
      t.records = q.records ∧ t.discarded = min 65535 (q.discarded + 1) ∧ t.staleMark = q.staleMark := by
  intro q t record interval
  have kept : (s.offerRecord j c.report).KeepsQueues (s.takeShares (.job :: l)) :=
    State.foldl_job_keepsQueues hc (hall ▸ allShares_nodup) (hall ▸ mem_allShares _) hj
  unfold t
  rw [kept.records, kept.discarded, kept.staleMark]
  split
  · next hfree => exact s.offerRecord_placed hd c.report (.inr hfree)
  · next hfull =>
    refine s.offerRecord_dropped hd c.report (not_or.mpr ⟨?_, hfull⟩)
    rintro ⟨n, hn⟩
    exact nomatch ha.symm.trans hn

/-- Settles O47, from the Job Table's share taken first: the record meets the queue as the report finds
it, and what follows keeps what it leaves. -/
theorem anUnreservedRecordIsPlacedOrDropped : Obligations.AnUnreservedRecordIsPlacedOrDropped := by
  intro shares ctx ts held j s hn hc hp hj hd ha q r interval
  have hid := s.findJob_id hj
  refine ⟨_, exec_conversionComplete .., ?_⟩
  rw [State.handOn_eq hn hc hp, ctx.report_eq]
  generalize ((s.setConverter none).channelShare _).channels = channels
  let report : Report :=
    { job := ctx.job, index := ctx.index, channel := ctx.channel, kind := ctx.kind, value := ctx.value held,
      timestamp := ts, fast := decide (ctx.kind = .convert ∧ ctx.rate = some .fast) }
  have outcome := State.takeShares_unreserved (j := j) (c := ⟨report, allShares⟩)
    (s := { s with converter := none, channels := channels, completion := some ⟨report, allShares⟩ })
    rfl rfl hj hd (by rw [hid]; exact ha) shares
  rw [hid] at outcome
  by_cases hfree : q.records.length + q.reserved < 64
  · rw [if_pos hfree]
    obtain ⟨hr, hdisc, hstale⟩ := (if_pos hfree).mp outcome
    exact ⟨hr, ResultRecord.byteSum_sealed _, hdisc, hstale⟩
  · rw [if_neg hfree]
    exact (if_neg hfree).mp outcome

/-- The preemption condition over a job that it finds (R44). -/
theorem State.urgentWaits_iff_of_found {s : State} {ctx : Context} {j : Job} (hc : s.converter = some ctx)
    (hj : s.findJob ctx.job = some j) :
    s.urgentWaits = true ↔ j.cls ≠ .urgent ∧ s.eligibleJobs .urgent ≠ [] := by
  unfold urgentWaits
  rw [hc]
  dsimp only
  rw [hj]
  simp

/-- The Job Table's share of an entry that is not the last, taken of a RUNNING job: the job waits
SUSPENDED at the next entry (R19, R36). -/
theorem State.takeShare_job_advances {s : State} {c : Completion} {j : Job} (hc : s.completion = some c)
    (hm : .job ∈ c.left) (hj : s.findJob c.report.job = some j) (hrun : j.state = .running)
    (hl : j.cursor + 1 < j.entries.length) :
    let u := s.takeShare .job
    (∃ k, u.findJob c.report.job = some k ∧ k.state = .suspended ∧ k.redo = false ∧
      k.cursor = j.cursor + 1) ∧
    u.converter = s.converter ∧ u.marker = s.marker ∧ u.ready = s.ready := by
  intro u
  have hid := s.findJob_id hj
  obtain ⟨k, hk, hstate, hcursor⟩ := s.findJob_offerRecord_isSome c.report (hid ▸ hj)
  rw [hid] at hk
  have hshare := s.jobShare_advances hj hk hl
  obtain ⟨hmarker, hready, -, hconv, -⟩ := s.offerRecord_leaves j c.report
  have hu : u = { (s.jobShare c.report).updateJob c.report.job Job.awaitSelection with
      completion := c.without .job } := State.takeShare_job_eq hc hm
  have hadv : (s.jobShare c.report).findJob c.report.job = some k.advance := by
    rw [hshare]
    exact State.findJob_update (s := s.offerRecord j c.report) (by intro; rfl) rfl hk
  have hwait : k.advance.awaitSelection = { k.advance with state := .suspended } :=
    if_pos (hstate.trans hrun)
  rw [hu]
  refine ⟨⟨_, State.findJob_update (s := s.jobShare c.report) State.awaitSelection_id rfl hadv, ?_, ?_, ?_⟩, ?_⟩
  · rw [hwait]
  · rw [hwait]; exact rfl
  · rw [hwait, ← hcursor]; exact rfl
  · rw [hshare]
    exact ⟨hconv, hmarker, hready⟩

/-- Settles O59: behind a report a selection waits for the Job Table's share, which leaves the job
SUSPENDED; otherwise the occasion preempts. -/
theorem urgentWorkPreemptsALowerClass : Obligations.UrgentWorkPreemptsALowerClass := by
  refine ⟨fun s c hc hj hi => State.schedule_waiting hc hj hi, fun s c j hc hi hleft hj hrun hl => ?_,
    fun ctx j s hc hj => ?_⟩
  · have hm : .job ∈ c.left := by rcases hleft with e | e <;> rw [e] <;> decide
    obtain ⟨⟨k, hk, hstate, hredo, hcursor⟩, hconv, hmarker, hready⟩ :=
      State.takeShare_job_advances hc hm hj hrun hl
    have hjob : (s.takeShare .job).completion = some { c with left := c.left.erase .job } := by
      rw [s.takeShare_completion hc, if_pos ⟨hm, by simp⟩]
      exact if_neg (by rcases hleft with e | e <;> rw [e] <;> decide)
    generalize ht : s.takeShare .job = t at hk hconv hmarker hready hjob
    have hselect : t.takeShare .select = (t.leave .select).schedule := by
      rcases hleft with e | e <;> simp [State.takeShare, hjob, e]
    refine ⟨t.leave .select, k, ?_, hk, hstate, hredo, hcursor, hconv.trans hi, hmarker, hready, ?_⟩
    · rw [exec_conversionComplete, State.handOn_some hc]
      unfold State.takeShares
      rw [List.cons_append, List.nil_append, List.foldl_cons, List.foldl_cons, List.foldl_nil, ht, hselect,
        State.schedule_quiet (t.leave .select) (State.urgentWaits_idle _ (hconv.trans hi))]
    · rw [t.leave_completion hjob]
      unfold Completion.without
      rcases hleft with e | e <;> simp [e]
  · have hiff := State.urgentWaits_iff_of_found hc hj
    by_cases hw : s.urgentWaits = true
    · rw [if_pos (hiff.mp hw), s.schedule_preempts hw]
      unfold State.preempt
      rw [hc]
      exact rfl
    · rw [if_neg fun h => hw (hiff.mpr h), s.schedule_quiet (Bool.not_eq_true _ ▸ hw), s.select_busy hc]

end Sys2Proof.Machine

/-! PROOFS. Numbers as bytes, the codes of conversions, the status byte and the record and notice
layouts (sections 3.2, 9.1, 10.1, 10.4, 10.6, 10.7). -/

namespace Sys2Proof.Machine

/-! ### Numbers as bytes (R176) -/

theorem byteOf_eq {n : Nat} {b : Byte} (h : n % 256 = b.toNat) : byteOf n = b :=
  BitVec.eq_of_toNat_eq (by rw [byteOf, BitVec.toNat_ofNat]; exact h)

theorem byteOf_add (m n : Nat) : byteOf (m + n) = byteOf m + byteOf n := BitVec.ofNat_add ..

theorem beBytes_two (b1 b0 : Byte) : beBytes 2 (256 * b1.toNat + b0.toNat) = [b1, b0] := by
  have h1 := b1.isLt
  have h0 := b0.isLt
  simp only [beBytes]
  rw [byteOf_eq (b := b1) (by omega), byteOf_eq (b := b0) (by omega)]

theorem beBytes_three (b2 b1 b0 : Byte) :
    beBytes 3 (65536 * b2.toNat + 256 * b1.toNat + b0.toNat) = [b2, b1, b0] := by
  have h2 := b2.isLt
  have h1 := b1.isLt
  have h0 := b0.isLt
  simp only [beBytes]
  rw [byteOf_eq (b := b2) (by omega), byteOf_eq (b := b1) (by omega), byteOf_eq (b := b0) (by omega)]

theorem beBytes_four (b3 b2 b1 b0 : Byte) :
    beBytes 4 (16777216 * b3.toNat + 65536 * b2.toNat + 256 * b1.toNat + b0.toNat) = [b3, b2, b1, b0] := by
  have h3 := b3.isLt
  have h2 := b2.isLt
  have h1 := b1.isLt
  have h0 := b0.isLt
  simp only [beBytes]
  rw [byteOf_eq (b := b3) (by omega), byteOf_eq (b := b2) (by omega), byteOf_eq (b := b1) (by omega),
    byteOf_eq (b := b0) (by omega)]

/-- Bits behind others are the low digits of the number. -/
theorem toNat_append_eq {m n : Nat} (x : BitVec m) (y : BitVec n) :
    (x ++ y).toNat = 2 ^ n * x.toNat + y.toNat := by
  rw [BitVec.toNat_append, Nat.shiftLeft_eq, Nat.mul_comm, ← Nat.two_pow_add_eq_or_of_lt y.isLt]

/-! ### The codes of conversions (R53, R54) -/

/-- The level of an input reaches a code other than 0 exactly from the lower edge of that code's band. -/
theorem le_inputLevel_iff {a : AnalogInput} (ha : 0 < a.refin) {n : Nat} (hn : n ≤ 4095) :
    n ≤ (inputLevel a).toNat ↔ n = 0 ∨ (n : Int) * a.refin ≤ a.vin * 4096 := by
  have hpos : (0 : Int) < a.refin := by omega
  have hlevel : (inputLevel a).toNat = min 4095 (a.vin * 4096 / a.refin).toNat := by
    unfold inputLevel
    rw [if_neg (by omega), BitVec.toNat_ofNat]
    omega
  rw [hlevel, ← Int.le_ediv_iff_mul_le hpos]
  omega

/-- A code is the one whose band the input lies in. -/
theorem inputLevel_eq_iff {a : AnalogInput} (ha : 0 < a.refin) {n : Nat} (hn : n < 4095) :
    (inputLevel a).toNat = n ↔
      (n = 0 ∨ (n : Int) * a.refin ≤ a.vin * 4096) ∧ a.vin * 4096 < ((n : Int) + 1) * a.refin := by
  have lower := le_inputLevel_iff ha (n := n) (by omega)
  have upper := le_inputLevel_iff ha (n := n + 1) (by omega)
  rw [← lower, ← not_le, show (n : Int) + 1 = ((n + 1 : Nat) : Int) from rfl,
    show ((n + 1 : Nat) : Int) * a.refin ≤ a.vin * 4096 ↔ n + 1 ≤ (inputLevel a).toNat by
      rw [upper]; simp]
  omega

/-- At rate FAST the two least significant bits are 0 (R54). -/
theorem and_fast_toNat (v : Code) : BitVec.toNat (v &&& 0xFFC#12) = v.toNat / 4 * 4 := by
  have hshift : v &&& 0xFFC#12 = (v >>> 2) <<< 2 := by
    refine BitVec.eq_of_getLsbD_eq fun i hi => ?_
    interval_cases i <;> simp
  have := v.isLt
  rw [hshift, BitVec.toNat_shiftLeft, BitVec.toNat_ushiftRight, Nat.shiftLeft_eq, Nat.shiftRight_eq_div_pow]
  omega

/-- Settles O50. -/
theorem codesStandForTheirBands : Obligations.CodesStandForTheirBands := by
  intro held ha
  have hpos : (0 : Int) < held.refin := by omega
  refine ⟨fun ctx hk hr => ?_, fun ctx threshold hk ht => ?_⟩
  · have hv : ctx.value held = inputLevel held := by
      unfold Context.value
      rw [hk, hr]
      rfl
    have top := le_inputLevel_iff ha (n := 4095) (by omega)
    have least := inputLevel_eq_iff ha (n := 0) (by omega)
    have := (inputLevel held).isLt
    rw [hv]
    refine ⟨fun n hn => inputLevel_eq_iff ha hn, ?_, fun hz => ?_, ?_⟩
    · rw [show (inputLevel held).toNat = 4095 ↔ 4095 ≤ (inputLevel held).toNat by omega, top]
      simp
    · exact BitVec.eq_of_toNat_eq (least.mpr ⟨.inl rfl, by omega⟩)
    · rw [← and_fast_toNat]
      unfold Context.value
      rw [hk]
      rfl
  · have reached := le_inputLevel_iff ha (n := threshold.toNat) (by have := threshold.isLt; omega)
    have hz : threshold.toNat = 0 ↔ threshold = 0 := by
      rw [← BitVec.toNat_inj]; rfl
    unfold Context.value
    rw [hk, ht]
    exact if_congr (by rw [← hz, ← reached]; rfl) rfl rfl

/-! ### The status byte (R160, R180) -/

/-- Four indications above a low half that an outcome's code fills. -/
theorem indications_code (a b c d : Bool) (o : CmdOutcome) :
    let x := byteOf ((if a then 128 else 0) + (if b then 64 else 0) + (if c then 32 else 0) +
      (if d then 16 else 0)) ||| o.code
    x.toNat % 16 = o.code.toNat ∧ x ≠ 0xFF ∧ x.getLsbD 7 = a ∧ x.getLsbD 6 = b ∧ x.getLsbD 5 = c ∧
      x.getLsbD 4 = d := by
  cases o <;> revert a b c d <;> decide

theorem CmdOutcome.code_le (o : CmdOutcome) : o.code.toNat ≤ 11 := by
  cases o <;> decide

theorem State.statusByte_eq (s : State) (h : HostId) :
    s.statusByte h =
      byteOf ((if decide ((s.session h).state = .attached) then 128 else 0) +
        (if s.holdsNotices h then 64 else 0) + (if s.atWatermark h then 32 else 0) +
        (if s.stale h then 16 else 0)) ||| (s.port h).lastOutcome.code := by
  unfold statusByte
  simp only [decide_eq_true_eq]

/-- Settles O55. -/
theorem theStatusByteCarriesItsIndications : Obligations.TheStatusByteCarriesItsIndications := by
  refine ⟨fun o => ?_, fun s h => ?_, fun s h hd hw ha => ?_, fun straps h => ?_⟩
  · cases o <;> rfl
  · obtain ⟨low, ne, b7, b6, b5, b4⟩ := indications_code (decide ((s.session h).state = .attached))
      (s.holdsNotices h) (s.atWatermark h) (s.stale h) (s.port h).lastOutcome
    rw [← s.statusByte_eq] at low ne b7 b6 b5 b4
    refine ⟨low, CmdOutcome.code_le _, ne, ?_, ?_, ?_, ?_⟩
    · rw [b7, decide_eq_true_eq]
    · rw [b6]; simp [State.holdsNotices]
    · rw [b5]; simp [State.atWatermark]
    · rw [b4]; rfl
  · obtain ⟨hrecords, -, hstale, hnotices, -⟩ := hd h (State.mem_allHosts h) (by simpa [State.isAttached] using ha)
    have hn : s.holdsNotices h = false := by simp [State.holdsNotices, hnotices]
    have hm : s.atWatermark h = false := by
      simp only [State.atWatermark, hrecords, List.length_nil, decide_eq_false_iff_not]
      omega
    have hc := (s.port h).lastOutcome.code_le
    rw [s.statusByte_eq, hn, hm, show s.stale h = false from hstale, decide_eq_false ha]
    exact lt_of_le_of_lt (by simpa [byteOf] using hc) (by decide)
  · have hport : (State.afterReset straps).port h = {} := Table.get_make ..
    have hsession : (State.afterReset straps).session h = {} := Table.get_make ..
    have hqueue : (State.afterReset straps).resultQueue h = {} := Table.get_make ..
    have hnotices : (State.afterReset straps).noticeQueue h = {} := Table.get_make ..
    unfold State.statusByte State.holdsNotices State.atWatermark State.stale
    rw [hport, hsession, hqueue, hnotices]
    decide

/-! ### Records and notices (R70, R182, R183) -/

theorem ResultRecord.bytes_eq (r : ResultRecord) :
    r.bytes =
      [r.tag, r.index ++ BitVec.ofNat 4 r.channel.val,
       (if r.redone then 1 else 0) + (if r.last then 2 else 0) + (if r.fast then 4 else 0)
         + (if r.restarted then 8 else 0) + (if r.kind = .compare then 128 else 0)]
        ++ beBytes 2 r.value.toNat ++ beBytes 2 r.pass.toNat ++ beBytes 4 r.timestamp.toNat ++ [r.check] := by
  have hplace : byteOf (16 * r.index.toNat + r.channel.val) = r.index ++ BitVec.ofNat 4 r.channel.val := by
    refine byteOf_eq ?_
    have := r.index.isLt
    have := r.channel.isLt
    rw [toNat_append_eq, BitVec.toNat_ofNat]
    omega
  have flag (q : Prop) [Decidable q] (n : Nat) : byteOf (if q then n else 0) = if q then byteOf n else 0 := by
    split <;> rfl
  unfold bytes body
  simp only [hplace, byteOf_add, flag]
  rfl

theorem Notice.bytes_eq (kind : NoticeKind) (subject d1 d0 b3 b2 b1 b0 : Byte) :
    Notice.bytes ⟨kind, subject, d1 ++ d0, b3 ++ b2 ++ b1 ++ b0⟩ =
      [kind.code, subject, d1, d0, b3, b2, b1, b0] := by
  unfold Notice.bytes
  have hdetail : (d1 ++ d0).toNat = 256 * d1.toNat + d0.toNat := toNat_append_eq ..
  have htime : (b3 ++ b2 ++ b1 ++ b0).toNat =
      16777216 * b3.toNat + 65536 * b2.toNat + 256 * b1.toNat + b0.toNat := by
    rw [toNat_append_eq, toNat_append_eq, toNat_append_eq]
    omega
  rw [hdetail, htime, beBytes_two, beBytes_four]
  rfl

/-- Settles O56. -/
theorem recordsAreSealedAndLaidOut : Obligations.RecordsAreSealedAndLaidOut := by
  refine ⟨fun r => ⟨r.byteSum_sealed, ?_, r.bytes_eq⟩, fun kind subject d1 d0 b3 b2 b1 b0 => ?_,
    fun b3 b2 b1 b0 => ⟨beBytes_two b1 b0, beBytes_three b2 b1 b0, beBytes_four b3 b2 b1 b0, ?_⟩,
    fun g p edge w => ?_, ?_⟩
  · rw [ResultRecord.bytes_eq]
    simp
  · rw [Notice.bytes_eq]
    cases kind <;> rfl
  · exact byteOf_eq (Nat.mod_eq_of_lt b0.isLt)
  · refine ⟨rfl, byteOf_toNat ?_, byteOf_toNat ?_, byteOf_toNat ?_, rfl, rfl, rfl, rfl⟩ <;> omega
  · decide

end Sys2Proof.Machine

/-! PROOFS. The parameter forms (sections 10.1, 10.3): fields at their offsets, named values by their
codes, and the forms read from them. -/

namespace Sys2Proof.Machine

/-! ### Fields at their offsets (R176, R178) -/

theorem field_cons_one (a : Byte) (l : List Byte) : field (a :: l) 0 1 = a.toNat := by
  simp [field, beNat]

theorem field_cons_two (a b : Byte) (l : List Byte) : field (a :: b :: l) 0 2 = 256 * a.toNat + b.toNat := by
  simp [field, beNat]

theorem field_cons_three (a b c : Byte) (l : List Byte) :
    field (a :: b :: c :: l) 0 3 = 65536 * a.toNat + 256 * b.toNat + c.toNat := by
  simp only [field, beNat, List.drop_zero, List.take_succ_cons, List.take_zero, List.foldl_cons, List.foldl_nil]
  omega

theorem field_cons_succ (a : Byte) (l : List Byte) (n width : Nat) :
    field (a :: l) (n + 1) width = field l n width := rfl

/-- Three bytes as a 24-bit field. -/
theorem ofNat_field_three (a b c : Byte) :
    BitVec.ofNat 24 (65536 * a.toNat + 256 * b.toNat + c.toNat) = a ++ b ++ c := by
  refine BitVec.eq_of_toNat_eq ?_
  have := a.isLt
  have := b.isLt
  have := c.isLt
  rw [toNat_append_eq, toNat_append_eq, BitVec.toNat_ofNat]
  omega

theorem byteOf_toNat_self (b : Byte) : byteOf b.toNat = b := byteOf_eq (Nat.mod_eq_of_lt b.isLt)

/-! ### Named values by their codes -/

/-- A byte is a small number exactly by its value. -/
theorem byte_eq_iff (b : Byte) {n : Nat} (hn : n < 256) : b = BitVec.ofNat 8 n ↔ b.toNat = n := by
  rw [← BitVec.toNat_inj, BitVec.toNat_ofNat, Nat.mod_eq_of_lt hn]

theorem ofCode_two {α : Type} {x y : α} {code : α → Byte} (hx : code x = 0) (hy : code y = 1) (b : Byte) :
    ofCode [x, y] code b.toNat = if b.toNat ≤ 1 then some (if b = 0 then x else y) else none := by
  have h0 : b = 0 ↔ b.toNat = 0 := byte_eq_iff b (by decide)
  simp only [ofCode, List.find?_cons, hx, hy, List.find?_nil, h0]
  rcases hb : b.toNat with _ | _ | n <;> simp

theorem ofCode_three {α : Type} {x y z : α} {code : α → Byte} (hx : code x = 0) (hy : code y = 1)
    (hz : code z = 2) (b : Byte) :
    ofCode [x, y, z] code b.toNat =
      if b.toNat ≤ 2 then some (if b = 0 then x else if b = 1 then y else z) else none := by
  have h0 : b = 0 ↔ b.toNat = 0 := byte_eq_iff b (by decide)
  have h1 : b = 1 ↔ b.toNat = 1 := byte_eq_iff b (by decide)
  simp only [ofCode, List.find?_cons, hx, hy, hz, List.find?_nil, h0, h1]
  rcases hb : b.toNat with _ | _ | _ | n <;> simp

theorem boolOfCode_eq (b : Byte) :
    boolOfCode b.toNat = if b.toNat ≤ 1 then some (decide (b = 1)) else none := by
  refine (ofCode_two (code := boolByte) rfl rfl b).trans ?_
  have h0 : b = 0 ↔ b.toNat = 0 := byte_eq_iff b (by decide)
  have h1 : b = 1 ↔ b.toNat = 1 := byte_eq_iff b (by decide)
  simp only [h0, h1]
  rcases hb : b.toNat with _ | _ | n <;> simp

theorem FullPolicy.ofCode_eq (b : Byte) :
    FullPolicy.ofCode b.toNat = if b.toNat ≤ 1 then some (if b = 0 then .wait else .discard) else none :=
  ofCode_two (code := FullPolicy.code) rfl rfl b

theorem Rate.ofCode_eq (b : Byte) :
    Rate.ofCode b.toNat = if b.toNat ≤ 1 then some (if b = 0 then .normal else .fast) else none :=
  ofCode_two (code := Rate.code) rfl rfl b

theorem Zone.ofCode_eq (b : Byte) :
    Zone.ofCode b.toNat = if b.toNat ≤ 1 then some (if b = 0 then .inside else .outside) else none :=
  ofCode_two (code := Zone.code) rfl rfl b

theorem JobKind.ofCode_eq (b : Byte) :
    JobKind.ofCode b.toNat = if b.toNat ≤ 1 then some (if b = 0 then .convert else .compare) else none :=
  ofCode_two (code := JobKind.code) rfl rfl b

theorem Destination.ofCode_eq (b : Byte) :
    Destination.ofCode b.toNat = if b.toNat ≤ 1 then some (if b = 0 then .queue else .table) else none :=
  ofCode_two (code := Destination.code) rfl rfl b

theorem TriggerMode.ofCode_eq (b : Byte) :
    TriggerMode.ofCode b.toNat =
      if b.toNat ≤ 2 then some (if b = 0 then .once else if b = 1 then .periodic else .burst) else none :=
  ofCode_three (code := TriggerMode.code) rfl rfl rfl b

theorem JobClass.ofCode_eq (b : Byte) :
    JobClass.ofCode b.toNat =
      if b.toNat ≤ 2 then some (if b = 0 then .urgent else if b = 1 then .normal else .background) else none :=
  ofCode_three (code := JobClass.code) rfl rfl rfl b

theorem RetriggerPolicy.ofCode_eq (b : Byte) :
    RetriggerPolicy.ofCode b.toNat =
      if b.toNat ≤ 2 then some (if b = 0 then .ignore else if b = 1 then .hold else .restart) else none :=
  ofCode_three (code := RetriggerPolicy.code) rfl rfl rfl b

theorem Edge.ofCode_eq (b : Byte) :
    Edge.ofCode b.toNat =
      if b.toNat ≤ 2 then some (if b = 0 then .rise else if b = 1 then .fall else .either) else none :=
  ofCode_three (code := Edge.code) rfl rfl rfl b

theorem bind_ite {α β : Type} (q : Prop) [Decidable q] (x : α) (f : α → Option β) :
    ((if q then some x else none) >>= f) = if q then f x else none := by
  split <;> rfl

theorem bind_dite {α β : Type} (q : Prop) [Decidable q] (x : q → α) (f : α → Option β) :
    ((if h : q then some (x h) else none) >>= f) = if h : q then f (x h) else none := by
  split <;> rfl

/-- A start setting: pin and edge are checked for EXTERNAL only (R96). -/
theorem parseStart_eq (g m d2 d1 d0 p2 p1 p0 f b st pin e : Byte) :
    parseStart [g, m, d2, d1, d0, p2, p1, p0, f, b, st, pin, e] =
      if st = 0 then some .command
      else if st = 1 ∧ e.toNat ≤ 1 then
        if hp : pin.toNat < 2 then some (.external ⟨pin.toNat, hp⟩ (decide (e = 0))) else none
      else none := by
  have h0 : st = 0 ↔ st.toNat = 0 := byte_eq_iff st (by decide)
  have h1 : st = 1 ↔ st.toNat = 1 := byte_eq_iff st (by decide)
  have e0 : e = 0 ↔ e.toNat = 0 := byte_eq_iff e (by decide)
  unfold parseStart below
  simp only [field_cons_succ, field_cons_one, h0, h1, e0]
  rcases st.toNat with _ | _ | n
  · simp
  · by_cases hp : pin.toNat < 2
    · rcases e.toNat with _ | _ | n <;> simp [hp]
    · rcases e.toNat with _ | _ | n <;> simp [hp]
  · simp

/-- The checks that a mode asks for, by its code (R96). -/
theorem TriggerProgram.fits_iff {m : Byte} (hm : m.toNat ≤ 2) (delay period : BitVec 24) (fraction burst : Byte)
    (start : TriggerStart) :
    TriggerProgram.fits ⟨if m = 0 then .once else if m = 1 then .periodic else .burst, delay, period, fraction,
        burst, start⟩ = true ↔
      (m ≠ 0 → period ≠ 0 ∧ fraction.toNat ≤ 15) ∧ (m = 2 → burst ≠ 0) := by
  obtain rfl | rfl | rfl : m = 0 ∨ m = 1 ∨ m = 2 := by
    rw [show m = 0 ↔ m.toNat = 0 from byte_eq_iff m (by decide),
      show m = 1 ↔ m.toNat = 1 from byte_eq_iff m (by decide),
      show m = 2 ↔ m.toNat = 2 from byte_eq_iff m (by decide)]
    omega
  · simp [fits]
  · simp [fits]
  · simp [fits, and_assoc]

/-- Two code fields in order, each within its range (R113). -/
theorem codeFields_iff (a b : Nat) :
    (a < 4096 ∧ b < 4096 ∧ BitVec.ofNat 12 a ≤ BitVec.ofNat 12 b) ↔ a ≤ b ∧ b ≤ 4095 := by
  rw [BitVec.le_def, BitVec.toNat_ofNat, BitVec.toNat_ofNat]
  omega

/-- Settles O20, form by form. -/
theorem settingsAreReadAsLaidOut : Obligations.SettingsAreReadAsLaidOut := by
  refine ⟨fun w i2 i1 i0 p n l1 l0 => ?_, fun c g r => ?_, fun g m d2 d1 d0 p2 p1 p0 f b st pin e => ?_,
    fun owner w c l1 l0 h1 h0 z y n => ?_⟩
  · unfold HostOptions.parse
    simp only [field_cons_one, field_cons_two, field_cons_three, field_cons_succ, boolOfCode_eq,
      FullPolicy.ofCode_eq, bind_ite]
    split_ifs <;> simp_all
  · unfold configureParams channelParam below
    simp only [field_cons_one, field_cons_succ, Rate.ofCode_eq, bind_ite, bind_dite, ite_and, dite_eq_ite]
  · unfold programParams generatorParam below
    rw [parseStart_eq]
    simp only [field_cons_one, field_cons_three, field_cons_succ, TriggerMode.ofCode_eq, bind_ite, bind_dite,
      byteOf_toNat_self, ofNat_field_three]
    refine dite_congr rfl (fun hg => ?_) fun _ => rfl
    generalize (if st = 0 then some TriggerStart.command else _) = start
    cases start with
    | none => exact ite_self _
    | some x =>
      refine (ite_and ..).symm.trans (if_congr (and_congr_right fun hm => ?_) rfl rfl)
      exact TriggerProgram.fits_iff hm ..
  · unfold watchParams watchParam below codeField
    simp only [field_cons_one, field_cons_two, field_cons_succ, Zone.ofCode_eq, boolOfCode_eq, bind_ite,
      bind_dite, byteOf_toNat_self]
    refine dite_congr rfl (fun hw => dite_congr rfl (fun hc => ?_) fun _ => rfl) fun _ => rfl
    simp only [← ite_and]
    refine if_congr ?_ rfl rfl
    have := codeFields_iff (256 * l1.toNat + l0.toNat) (256 * h1.toNat + h0.toNat)
    tauto

/-! ### Submit Job (R13, R16, R179) -/

/-- A source by the number of its byte (R13). -/
theorem Source.ofBytes_eq (n : Nat) (edge : Byte) :
    Source.ofBytes n edge.toNat =
      if n = 0 then some .now
      else if hg : 0x10 ≤ n ∧ n ≤ 0x13 then some (.generator ⟨n - 0x10, by omega⟩)
      else if hp : 0x20 ≤ n ∧ n ≤ 0x21 then
        if edge.toNat ≤ 2 then
          some (.pin ⟨n - 0x20, by omega⟩ (if edge = 0 then .rise else if edge = 1 then .fall else .either))
        else none
      else if hw : 0x30 ≤ n ∧ n ≤ 0x37 then some (.watch ⟨n - 0x30, by omega⟩)
      else none := by
  unfold Source.ofBytes
  rw [Edge.ofCode_eq]
  split
  case h_16 =>
    simp only [imp_false] at *
    rw [if_neg (by omega), dif_neg (by omega), dif_neg (by omega), dif_neg (by omega)]
  case h_6 =>
    rw [if_neg (show ¬ (32 : Nat) = 0 by decide), dif_neg (show ¬ (16 ≤ 32 ∧ 32 ≤ 19) by decide),
      dif_pos (show 32 ≤ 32 ∧ 32 ≤ 33 by decide)]
    split <;> rfl
  case h_7 =>
    rw [if_neg (show ¬ (33 : Nat) = 0 by decide), dif_neg (show ¬ (16 ≤ 33 ∧ 33 ≤ 19) by decide),
      dif_pos (show 32 ≤ 33 ∧ 33 ≤ 33 by decide)]
    split <;> rfl
  all_goals rfl

/-- An entry's three bytes, read for a job of a kind (R9, R179). -/
def entryOf (kind : JobKind) (e : Byte × Byte × Byte) : Option Entry :=
  if e.1.toNat ≤ 15 ∧ (kind = .compare → 256 * e.2.1.toNat + e.2.2.toNat ≤ 4095) then
    some ⟨Fin.ofNat 16 e.1.toNat,
      if kind = .convert then 0 else BitVec.ofNat 12 (256 * e.2.1.toNat + e.2.2.toNat)⟩
  else none

/-- The bytes of the entries, in their order. -/
def entryBytes (es : List (Byte × Byte × Byte)) : List Byte := (es.map fun e => [e.1, e.2.1, e.2.2]).flatten

theorem drop_entryBytes (es : List (Byte × Byte × Byte)) (i : Nat) :
    (entryBytes es).drop (3 * i) = entryBytes (es.drop i) := by
  induction es generalizing i with
  | nil => simp [entryBytes]
  | cons e es ih =>
    cases i with
    | zero => rfl
    | succ i => exact ih i

/-- An entry behind the header is read from its own three bytes. -/
theorem parseEntry_eq {header : List Byte} (hh : header.length = 11) (kind : JobKind)
    {es : List (Byte × Byte × Byte)} {i : Nat} (hi : i < es.length) :
    parseEntry (header ++ entryBytes es) kind i = entryOf kind es[i] := by
  have at_entry (k width : Nat) : field (header ++ entryBytes es) (11 + 3 * i + k) width =
      field (entryBytes (es[i] :: es.drop (i + 1))) k width := by
    unfold field
    rw [Nat.add_assoc, ← List.drop_drop, ← hh, List.drop_left, ← List.drop_drop, drop_entryBytes,
      List.drop_eq_getElem_cons hi]
  have hchannel : field (header ++ entryBytes es) (11 + 3 * i) 1 = es[i].1.toNat :=
    (at_entry 0 1).trans (field_cons_one ..)
  have hthreshold : field (header ++ entryBytes es) (12 + 3 * i) 2 =
      256 * es[i].2.1.toNat + es[i].2.2.toNat := by
    rw [show 12 + 3 * i = 11 + 3 * i + 1 by omega, at_entry]
    exact field_cons_two ..
  unfold parseEntry below codeField entryOf
  rw [hchannel, hthreshold]
  cases kind
  · by_cases hc : es[i].1.toNat < 16
    · simp [hc, Nat.le_of_lt_succ hc, Fin.ext_iff, Nat.mod_eq_of_lt hc]
    · simp [hc, show ¬ es[i].1.toNat ≤ 15 by omega]
  · by_cases hc : es[i].1.toNat < 16
    · by_cases ht : 256 * es[i].2.1.toNat + es[i].2.2.toNat < 4096
      · simp [hc, ht, Nat.le_of_lt_succ hc, Nat.le_of_lt_succ ht, Fin.ext_iff, Nat.mod_eq_of_lt hc]
      · simp [ht, show ¬ 256 * es[i].2.1.toNat + es[i].2.2.toNat ≤ 4095 by omega]
    · simp [hc, show ¬ es[i].1.toNat ≤ 15 by omega]

/-- A list read by position is read element by element. -/
theorem mapM_range_length {α β : Type} {f : Nat → Option β} {g : α → Option β} {l : List α}
    (h : ∀ (i : Nat) (hi : i < l.length), f i = g l[i]) : (List.range l.length).mapM f = l.mapM g := by
  induction l generalizing f with
  | nil => rfl
  | cons a l ih =>
    rw [List.length_cons, List.range_succ_eq_map, List.mapM_cons, List.mapM_cons, h 0 (by simp), List.mapM_map,
      ih (f := f ∘ Nat.succ) fun i hi => h (i + 1) (Nat.succ_lt_succ hi)]
    rfl

/-- What is read of every element, or none where one is refused. -/
theorem mapM_ite {α β : Type} (q : α → Bool) (f : α → β) (l : List α) :
    (l.mapM fun a => if q a = true then some (f a) else none) = if l.all q = true then some (l.map f) else none := by
  induction l with
  | nil => rfl
  | cons a l ih =>
    rw [List.mapM_cons, ih]
    by_cases ha : q a = true
    · by_cases hl : l.all q = true
      · simp [ha, hl]
      · simp [ha, hl]
    · simp [ha]

theorem tagField_toNat (tag : Byte) : tagField tag.toNat = if tag ≠ 0 then some tag else none := by
  have h0 : tag = 0 ↔ tag.toNat = 0 := byte_eq_iff tag (by decide)
  unfold tagField
  rw [byteOf_toNat_self]
  by_cases h : tag = 0
  · rw [if_pos (h0.mp h), if_neg (not_not.mpr h)]
  · rw [if_neg (h0.not.mp h), if_pos h]

/-- The kind that a kind byte of 0 or 1 names (R179). -/
theorem kindOf_iff {kind : Byte} (hk : kind.toNat ≤ 1) :
    ((if kind = 0 then JobKind.convert else .compare) = .convert ↔ kind = 0) ∧
    ((if kind = 0 then JobKind.convert else .compare) = .compare ↔ kind = 1) ∧ (kind = 0 ↔ ¬ kind = 1) := by
  obtain rfl | rfl : kind = 0 ∨ kind = 1 := by
    rw [show kind = 0 ↔ kind.toNat = 0 from byte_eq_iff kind (by decide),
      show kind = 1 ↔ kind.toNat = 1 from byte_eq_iff kind (by decide)]
    omega
  · decide
  · decide

/-- Settles O21, field by field and entry by entry. -/
theorem aSubmitJobIsReadAsLaidOut : Obligations.ASubmitJobIsReadAsLaidOut := by
  intro owner tag kind cls dest src edge pol l1 l0 flags count es hcount
  extract_lets source
  have hsource : Source.ofBytes src.toNat edge.toNat = source :=
    (Source.ofBytes_eq ..).trans (if_congr (byte_eq_iff src (by decide)).symm rfl rfl)
  have hentries (k : JobKind) := mapM_range_length (l := es) (g := entryOf k) fun i hi =>
    parseEntry_eq (header := [tag, kind, cls, dest, src, edge, pol, l1, l0, flags, count]) rfl k hi
  unfold entryBytes at hentries
  unfold parseJob
  generalize hparams : ([tag, kind, cls, dest, src, edge, pol, l1, l0, flags, count]
    ++ (es.map fun e => [e.1, e.2.1, e.2.2]).flatten) = params at hentries ⊢
  have f0 : field params 0 1 = tag.toNat := by rw [← hparams]; exact field_cons_one ..
  have f1 : field params 1 1 = kind.toNat := by rw [← hparams]; exact field_cons_one ..
  have f2 : field params 2 1 = cls.toNat := by rw [← hparams]; exact field_cons_one ..
  have f3 : field params 3 1 = dest.toNat := by rw [← hparams]; exact field_cons_one ..
  have f4 : field params 4 1 = src.toNat := by rw [← hparams]; exact field_cons_one ..
  have f5 : field params 5 1 = edge.toNat := by rw [← hparams]; exact field_cons_one ..
  have f6 : field params 6 1 = pol.toNat := by rw [← hparams]; exact field_cons_one ..
  have f7 : field params 7 2 = 256 * l1.toNat + l0.toNat := by rw [← hparams]; exact field_cons_two ..
  have f9 : field params 9 1 = flags.toNat := by rw [← hparams]; exact field_cons_one ..
  have f10 : field params 10 1 = count.toNat := by rw [← hparams]; exact field_cons_one ..
  rw [f0, f1, f2, f3, f4, f5, f6, f7, f9, f10, hsource, hcount, tagField_toNat, JobKind.ofCode_eq,
    JobClass.ofCode_eq, Destination.ofCode_eq, RetriggerPolicy.ofCode_eq, boolOfCode_eq]
  unfold countField
  simp only [bind_ite, hentries]
  clear_value source
  cases source with
  | none => simp
  | some x =>
    by_cases hk : kind.toNat ≤ 1
    · obtain ⟨hconvert, hcompare, hnot⟩ := kindOf_iff hk
      have hentry : entryOf (if kind = 0 then .convert else .compare) = fun e =>
          if decide (e.1.toNat ≤ 15 ∧ (kind = 1 → 256 * e.2.1.toNat + e.2.2.toNat ≤ 4095)) = true then
            some ⟨Fin.ofNat 16 e.1.toNat,
              if kind = 0 then 0 else BitVec.ofNat 12 (256 * e.2.1.toNat + e.2.2.toNat)⟩
          else none := by
        funext e
        unfold entryOf
        simp only [hconvert, hcompare, decide_eq_true_eq]
      have hdest : (kind = 0 ∨ (if dest = 0 then Destination.queue else .table) = .queue) ↔
          (kind = 1 → dest = 0) := by
        have hqueue : (if dest = 0 then Destination.queue else .table) = .queue ↔ dest = 0 := by
          by_cases hd : dest = 0
          · simp only [hd, if_true]
          · simp only [hd, if_false, reduceCtorEq]
        rw [hqueue, hnot]
        tauto
      rw [hentry, mapM_ite]
      simp only [bind_ite, hconvert, hdest, Option.bind_eq_bind, Option.bind_some, ← ite_and]
      refine if_congr ?_ rfl rfl
      tauto
    · simp [hk]

end Sys2Proof.Machine

/-! PROOFS. The transfer of replies (sections 4.5, 7.3, 9.1, 9.3): the byte a port presents, what a
transfer leaves in the port, and what an item's last byte does. -/

namespace Sys2Proof.Machine

/-! ### The bytes of a member (R182, R183) -/

theorem ResultRecord.bytes_length (r : ResultRecord) : r.bytes.length = 12 := by
  rw [ResultRecord.bytes_eq]
  simp

theorem Notice.bytes_length (n : Notice) : n.bytes.length = 8 := by
  simp [Notice.bytes]

/-- A byte of a list at a place within it, the default never read. -/
theorem some_getD_getElem? {l : List Byte} {i : Nat} (h : i < l.length) : some (l[i]?.getD 0) = l[i]? := by
  rw [List.getElem?_eq_getElem h]
  rfl

/-- A NACK ends the read phase of the I2C port (R172). -/
theorem ReadPhase.afterAck_eq (r : ReadPhase) (h : HostId) (ack : Bool) :
    r.afterAck h ack = if h = 2 ∧ ack = false then .ended else r := by
  unfold ReadPhase.afterAck isSpi
  by_cases hh : h = 2
  · cases ack <;> simp [hh]
  · simp [hh]

/-! ### The item in transfer (R166) -/

/-- The member of a counted reply in transfer ends with its last byte. -/
theorem Reply.itemEnd_drain {r : Reply} {n : Nat} (hb : r.body = .drain n) (hn : 1 ≤ n)
    (hlt : r.transferred < 2 + 12 * n) : r.itemEnd = some (2 + 12 * ((r.transferred - 2) / 12 + 1)) := by
  unfold itemEnd
  rw [hb]
  exact if_pos (by omega)

theorem Reply.itemEnd_notices {r : Reply} {n : Nat} (hb : r.body = .notices n) (hn : 1 ≤ n)
    (hlt : r.transferred < 2 + 8 * n) : r.itemEnd = some (2 + 8 * ((r.transferred - 2) / 8 + 1)) := by
  unfold itemEnd
  rw [hb]
  exact if_pos (by omega)

theorem Reply.itemEnd_status {r : Reply} {bytes : List Byte} {n : Nat} (hb : r.body = .status bytes n)
    (hlt : r.transferred < 13) : r.itemEnd = some 13 := by
  unfold itemEnd
  rw [hb]
  exact if_pos hlt

namespace State

variable (s : State) {h : HostId} {r : Reply}

/-- The port once bytes of its reply up to a count have been transferred (R166, R172; log entry 11). -/
def sentTo (h : HostId) (r : Reply) (count : Nat) (b : Byte) (ack : Bool) : State :=
  s.setPort h
    { s.port h with
      reply := some { r with transferred := count }
      statusSent := true
      lastSent := some b
      readPhase := if h = 2 ∧ ack = false then .ended else (s.port h).readPhase }

theorem transferTo_eq (count : Nat) (ack : Bool) :
    s.transferTo h r count ack =
      if r.itemEnd = some count then
        (s.sentTo h r count (s.replyByte h r.body (count - 1)) ack).itemDelivered h r.body
      else s.sentTo h r count (s.replyByte h r.body (count - 1)) ack := by
  unfold transferTo sentTo
  simp only [ReadPhase.afterAck_eq]

/-- An item in transfer is transferred to its last byte, and what that completes follows. -/
theorem transferItem_eq {carries : ReplyBody → Bool} {count : Nat} (hr : (s.port h).reply = some r)
    (ho : s.outByte h ≠ none) (hc : carries r.body = true) (hi : r.itemEnd = some count) (ack : Bool) :
    s.transferItem h carries ack =
      (s.sentTo h r count (s.replyByte h r.body (count - 1)) ack).itemDelivered h r.body := by
  obtain ⟨b, hb⟩ := Option.ne_none_iff_exists'.mp ho
  unfold transferItem
  rw [hb, hr]
  dsimp only
  rw [hc, hi]
  dsimp only
  rw [transferTo_eq, if_pos hi]

/-- A byte of a counted reply behind its count: of the member at the head, and 0x00 behind a teardown
(R88, R134, R150). -/
theorem replyByte_drain (n j : Nat) :
    s.replyByte h (.drain n) (j + 2) =
      match (s.resultQueue h).records with
      | x :: _ => if (s.session h).state = .attached then (x.bytes[j % 12]?).getD 0 else 0x00
      | [] => 0x00 := by
  have hdef : s.replyByte h (.drain n) (j + 2) =
      if (s.session h).state = .attached then ((s.headBytes h (.drain n))[j % 12]?).getD 0 else 0x00 := rfl
  rw [hdef]
  unfold headBytes
  cases (s.resultQueue h).records with
  | nil => exact ite_self _
  | cons x _ => rfl

theorem replyByte_notices (n j : Nat) :
    s.replyByte h (.notices n) (j + 2) =
      match (s.noticeQueue h).notices with
      | x :: _ => if (s.session h).state = .attached then (x.bytes[j % 8]?).getD 0 else 0x00
      | [] => 0x00 := by
  have hdef : s.replyByte h (.notices n) (j + 2) =
      if (s.session h).state = .attached then ((s.headBytes h (.notices n))[j % 8]?).getD 0 else 0x00 := rfl
  rw [hdef]
  unfold headBytes
  cases (s.noticeQueue h).notices with
  | nil => exact ite_self _
  | cons x _ => rfl

end State

/-- Settles O27. -/
theorem aRecordLeavesWhenItsLastByteIsTransferred : Obligations.ARecordLeavesWhenItsLastByteIsTransferred := by
  intro h ack r n s hr hb hn hlt ho attached u
  have hexec : exec (.recordTransferred h ack) s = .next (s.transferItem h ReplyBody.isDrain ack) := rfl
  have hbyte : some (s.replyByte h r.body (2 + 12 * ((r.transferred - 2) / 12 + 1) - 1)) =
      match (s.resultQueue h).records with
      | x :: _ => if attached then x.bytes[11]? else some 0x00
      | [] => some 0x00 := by
    rw [hb, show 2 + 12 * ((r.transferred - 2) / 12 + 1) - 1 = 12 * ((r.transferred - 2) / 12) + 11 + 2 by omega,
      s.replyByte_drain, show (12 * ((r.transferred - 2) / 12) + 11) % 12 = 11 by omega]
    cases (s.resultQueue h).records with
    | nil => rfl
    | cons x _ =>
      dsimp only
      rw [apply_ite some, some_getD_getElem? (by rw [x.bytes_length]; decide)]
  rw [hexec, s.transferItem_eq hr ho (by rw [hb]; rfl) (r.itemEnd_drain hb hn hlt)]
  have hu : s.sentTo h r (2 + 12 * ((r.transferred - 2) / 12 + 1))
      (s.replyByte h r.body (2 + 12 * ((r.transferred - 2) / 12 + 1) - 1)) ack = u := by
    unfold State.sentTo
    rw [hbyte]
    rfl
  rw [hu, hb]
  refine congrArg _ ((show u.itemDelivered h (.drain n) = u.recordLeaves h from rfl).trans ?_)
  have hqueue : (u.resultQueue h).records = (s.resultQueue h).records := rfl
  cases hq : (s.resultQueue h).records with
  | nil => exact u.recordLeaves_nil (hqueue.trans hq)
  | cons x rest =>
    rw [u.recordLeaves_eq (hqueue.trans hq)]
    unfold State.withoutHead
    rw [State.headReached_eq]
    exact rfl

/-- Settles O28. -/
theorem noticesAndCountsLeaveWhenTransferred : Obligations.NoticesAndCountsLeaveWhenTransferred := by
  intro h ack r s hr ho sent
  refine ⟨fun n hb hn hlt => ?_, fun bytes reported hb hlt => ?_⟩
  · have hexec : exec (.noticeTransferred h ack) s = .next (s.transferItem h ReplyBody.isNotices ack) := rfl
    have hbyte : some (s.replyByte h r.body (2 + 8 * ((r.transferred - 2) / 8 + 1) - 1)) =
        match (s.noticeQueue h).notices with
        | x :: _ => if (s.session h).state = .attached then x.bytes[7]? else some 0x00
        | [] => some 0x00 := by
      rw [hb, show 2 + 8 * ((r.transferred - 2) / 8 + 1) - 1 = 8 * ((r.transferred - 2) / 8) + 7 + 2 by omega,
        s.replyByte_notices, show (8 * ((r.transferred - 2) / 8) + 7) % 8 = 7 by omega]
      cases (s.noticeQueue h).notices with
      | nil => rfl
      | cons x _ =>
        dsimp only
        rw [apply_ite some, some_getD_getElem? (by rw [x.bytes_length]; decide)]
    rw [hexec, s.transferItem_eq hr ho (by rw [hb]; rfl) (r.itemEnd_notices hb hn hlt)]
    have hu (b : Byte) : s.sentTo h r (2 + 8 * ((r.transferred - 2) / 8 + 1)) b ack =
        { s with ports := sent (2 + 8 * ((r.transferred - 2) / 8 + 1)) (some b) } := rfl
    rw [hu, hbyte, hb]
    exact rfl
  · have hexec : exec (.discardCountTransferred h ack) s = .next (s.transferItem h ReplyBody.isStatus ack) := rfl
    rw [hexec, s.transferItem_eq hr ho (by rw [hb]; rfl) (r.itemEnd_status hb hlt), hb]
    exact rfl

/-! ### The byte a port presents (R161, R162, R165, R172, R173) -/

namespace State

variable (s : State) {h : HostId} {r : Reply}

/-- The port is within a frame on an SPI port, or in its read phase on the I2C port. -/
def Sends (h : HostId) : Prop := if h = 2 then (s.port h).readPhase = .begun else (s.port h).phase ≠ .idle

theorem outByte_eq (h : HostId) [Decidable (s.Sends h)] :
    s.outByte h =
      if s.Sends h then
        if (s.port h).statusSent = true then
          match (s.port h).reply with
          | some r =>
            if r.transferred < r.body.length then some (s.replyByte h r.body r.transferred)
            else some (fillByte h)
          | none => some (fillByte h)
        else (s.port h).statusCapture
      else none := by
  have hdrives : (if isSpi h then (s.port h).phase != .idle else (s.port h).readPhase == .begun) = true ↔
      s.Sends h := by
    unfold Sends isSpi
    by_cases hh : h = 2 <;> simp [hh]
  unfold outByte
  exact if_congr hdrives rfl rfl

/-- What an item's last byte completes changes no port. -/
theorem itemDelivered_ports (h : HostId) (body : ReplyBody) : (s.itemDelivered h body).ports = s.ports := by
  cases body with
  | fixed _ => rfl
  | status _ _ => rfl
  | notices _ => rfl
  | drain n =>
    have hdef : s.itemDelivered h (.drain n) = s.recordLeaves h := rfl
    rw [hdef]
    cases hq : (s.resultQueue h).records with
    | nil => rw [s.recordLeaves_nil hq]
    | cons x rest =>
      rw [s.recordLeaves_eq hq, (schedule_engine _).ports]
      exact rfl

end State

/-- The next byte of a reply ends the item in transfer. -/
def Reply.EndsItem (r : Reply) : Prop :=
  match r.body with
  | .fixed _ => False
  | .status _ _ => r.transferred = 12
  | .drain _ => 2 ≤ r.transferred ∧ (r.transferred - 1) % 12 = 0
  | .notices _ => 2 ≤ r.transferred ∧ (r.transferred - 1) % 8 = 0

theorem Reply.endsItem_iff {r : Reply} (hlt : r.transferred < r.body.length) :
    r.itemEnd = some (r.transferred + 1) ↔ r.EndsItem := by
  unfold EndsItem
  cases hb : r.body with
  | fixed bytes =>
    unfold itemEnd
    rw [hb]
    simp
  | status bytes n =>
    unfold itemEnd
    rw [hb]
    dsimp only
    split
    · rw [Option.some.injEq]; omega
    · simp; omega
  | drain n =>
    rw [hb] at hlt
    have hlt : r.transferred < 2 + 12 * n := hlt
    by_cases hn : 1 ≤ n
    · rw [r.itemEnd_drain hb hn hlt, Option.some.injEq]
      dsimp only
      omega
    · unfold itemEnd
      rw [hb]
      simp
      omega
  | notices n =>
    rw [hb] at hlt
    have hlt : r.transferred < 2 + 8 * n := hlt
    by_cases hn : 1 ≤ n
    · rw [r.itemEnd_notices hb hn hlt, Option.some.injEq]
      dsimp only
      omega
    · unfold itemEnd
      rw [hb]
      simp
      omega

namespace State

variable (s : State) {h : HostId} {r : Reply} {b : Byte}

/-- A byte that belongs to no item changes the port alone (R166). -/
theorem sendPlain_port (h : HostId) (b : Byte) (ack : Bool) :
    (s.sendPlain h b ack).port h =
      { s.port h with
        statusSent := true
        lastSent := some b
        readPhase := if h = 2 ∧ ack = false then .ended else (s.port h).readPhase } := by
  unfold sendPlain
  rw [setPort_port_self, ReadPhase.afterAck_eq]

theorem transferTo_port (h : HostId) (r : Reply) (count : Nat) (ack : Bool) :
    (s.transferTo h r count ack).port h =
      { s.port h with
        reply := some { r with transferred := count }
        statusSent := true
        lastSent := some (s.replyByte h r.body (count - 1))
        readPhase := if h = 2 ∧ ack = false then .ended else (s.port h).readPhase } ∧
    ∀ g, g ≠ h → (s.transferTo h r count ack).port g = s.port g := by
  have sent (g : HostId) : (s.transferTo h r count ack).port g =
      (s.sentTo h r count (s.replyByte h r.body (count - 1)) ack).port g := by
    rw [transferTo_eq]
    split
    · exact congrArg (·.get g) (itemDelivered_ports ..)
    · rfl
  refine ⟨(sent h).trans (setPort_port_self ..), fun g hg => (sent g).trans (setPort_port_ne _ _ _ hg)⟩

/-- The byte that goes out where no reply has started, or its bytes are all sent (R162, R165). -/
theorem transferByte_plain (ho : s.outByte h = some b)
    (hp : (s.port h).statusSent = true → ∀ r, (s.port h).reply = some r → r.body.length ≤ r.transferred)
    (ack : Bool) : s.transferByte h ack = s.sendPlain h b ack := by
  unfold transferByte
  rw [ho]
  dsimp only
  split
  · next r hs hr => exact if_neg (Nat.not_lt_of_le (hp hs r hr))
  · rfl

theorem transferByte_reply (ho : s.outByte h = some b) (hs : (s.port h).statusSent = true)
    (hr : (s.port h).reply = some r) (hlt : r.transferred < r.body.length) (ack : Bool) :
    s.transferByte h ack = s.transferTo h r (r.transferred + 1) ack := by
  unfold transferByte
  rw [ho, hs, hr]
  exact if_pos hlt

end State

/-- The byte of a counted reply at a place: 0x00 behind a teardown, then OK, the count and the bytes of
the member at the head (R88, R134, R150). -/
def countedByte (attached : Bool) (n width : Nat) (head : Option (List Byte)) (i : Nat) : Byte :=
  if attached = true then
    match i with
    | 0 => CmdOutcome.ok.code
    | 1 => byteOf n
    | j + 2 => ((head.getD [])[j % width]?).getD 0
  else 0x00

theorem State.replyByte_counted (s : State) (h : HostId) (n i : Nat) :
    s.replyByte h (.drain n) i = countedByte (decide ((s.session h).state = .attached)) n 12
      ((s.resultQueue h).records.head?.map ResultRecord.bytes) i ∧
    s.replyByte h (.notices n) i = countedByte (decide ((s.session h).state = .attached)) n 8
      ((s.noticeQueue h).notices.head?.map Notice.bytes) i := by
  unfold countedByte
  simp only [decide_eq_true_eq]
  exact ⟨rfl, rfl⟩

theorem countedByte_carries (attached : Prop) [Decidable attached] (n : Nat) {width : Nat} (hw : 0 < width)
    {head : Option (List Byte)} (hhead : ∀ m ∈ head, m.length = width) (i : Nat) :
    if ¬ attached then countedByte (decide attached) n width head i = 0x00
    else if i = 0 then countedByte (decide attached) n width head i = 0
    else if i = 1 then countedByte (decide attached) n width head i = byteOf n
    else
      match (generalizing := false) head with
      | none => countedByte (decide attached) n width head i = 0x00
      | some member => member[(i - 2) % width]? = some (countedByte (decide attached) n width head i) := by
  unfold countedByte
  by_cases ha : attached
  · rcases i with _ | _ | j
    · simp [ha]
      rfl
    · simp [ha]
    · cases head with
      | none => simp [ha]
      | some m =>
        have hj : j % width < m.length := by rw [hhead m rfl]; exact Nat.mod_lt _ hw
        simp [ha, hj]
  · simp [ha]

/-- Settles O29. -/
theorem replyBytesAreTransferredInOrder : Obligations.ReplyBytesAreTransferredInOrder := by
  classical
  intro h ack s p drives size carries endsItem
  have hexec : exec (.replyByteTransferred h ack) s = .next (s.transferByte h ack) := rfl
  have hout := s.outByte_eq h
  rw [hexec]
  refine ⟨fun hno => ?_, fun ⟨hsends, hready⟩ => ?_⟩
  · have hnone : s.outByte h = none := by
      rw [hout]
      by_cases hs : s.Sends h
      · rw [if_pos hs]
        obtain ⟨hunsent, hcapture⟩ := not_or.mp fun hr => hno ⟨hs, hr⟩
        rw [if_neg hunsent]
        exact not_not.mp hcapture
      · exact if_neg hs
    refine ⟨hnone, ?_⟩
    unfold State.transferByte
    rw [hnone]
  rw [if_pos (show s.Sends h from hsends)] at hout
  have plain {b : Byte} (ho : s.outByte h = some b)
      (hp : p.statusSent = true → ∀ r, p.reply = some r → r.body.length ≤ r.transferred) :
      (∀ g, g ≠ h → (s.transferByte h ack).port g = s.port g) ∧
      (s.transferByte h ack).port h = { p with
        reply := ((s.transferByte h ack).port h).reply
        statusSent := true
        lastSent := some b
        readPhase := if h = 2 ∧ ack = false then .ended else p.readPhase } ∧
      ((s.transferByte h ack).port h).reply = p.reply ∧
      s.transferByte h ack = { s with ports := (s.transferByte h ack).ports } := by
    have hport := s.sendPlain_port h b ack
    rw [s.transferByte_plain ho hp]
    refine ⟨fun g hg => s.setPort_port_ne h _ hg, ?_, by rw [hport], rfl⟩
    rw [hport]
  by_cases hsent : p.statusSent = true
  · rw [if_pos hsent] at hout
    by_cases hdone : ∀ r, p.reply = some r → r.body.length ≤ r.transferred
    · have ho : s.outByte h = some (fillByte h) := by
        rw [hout]
        split
        · next r hr => exact if_neg (Nat.not_lt_of_le (hdone r hr))
        · rfl
      obtain ⟨hothers, hport, hreply, hrest⟩ := plain ho fun _ => hdone
      refine ⟨_, fillByte h, rfl, ho, hothers, hport, fun hf => absurd hsent (by rw [hf]; decide),
        fun _ r hr hlt => absurd (hdone r hr) (Nat.not_le_of_lt hlt), fun _ _ => ⟨?_, hreply, hrest⟩⟩
      unfold fillByte isSpi
      by_cases hh : h = 2 <;> simp [hh]
    · obtain ⟨r, hdone⟩ := not_forall.mp hdone
      obtain ⟨hr, hlt⟩ := Classical.not_imp.mp hdone
      have hlt := Nat.lt_of_not_le hlt
      have ho : s.outByte h = some (s.replyByte h r.body r.transferred) := by
        rw [hout]
        split
        · next r' hr' =>
          cases hr.symm.trans hr'
          exact if_pos hlt
        · next hr' => exact nomatch hr.symm.trans hr'
      have ht := s.transferByte_reply ho hsent hr hlt ack
      obtain ⟨hport, hothers⟩ := s.transferTo_port h r (r.transferred + 1) ack
      rw [Nat.add_sub_cancel] at hport
      rw [← ht] at hport hothers
      have hreply : ((s.transferByte h ack).port h).reply = some { r with transferred := r.transferred + 1 } := by
        rw [hport]
      have item {body : ReplyBody} {carry : ReplyBody → Bool} (hb : r.body = body) (hc : carry body = true)
          (he : endsItem r) : s.transferByte h ack = s.transferItem h carry ack := by
        have hi := (Reply.endsItem_iff hlt).mpr he
        rw [ht, s.transferItem_eq hr (by rw [ho]; simp) (hb ▸ hc) hi, s.transferTo_eq, if_pos hi]
      refine ⟨_, s.replyByte h r.body r.transferred, rfl, ho, hothers, ?_, fun hf => absurd hsent (by rw [hf]; decide),
        fun _ r' hr' _ => ?_, fun _ hd => absurd (hd r hr) (Nat.not_le_of_lt hlt)⟩
      · rw [hport]
      cases hr.symm.trans hr'
      refine ⟨?_, hreply, fun hne => ?_, fun he n hb => ?_, fun he n hb => ?_, fun he bytes n hb => ?_⟩
      · show carries r _
        unfold carries
        have hrecords : ∀ m ∈ (s.resultQueue h).records.head?.map ResultRecord.bytes, m.length = 12 := by
          intro m hm
          obtain ⟨x, -, rfl⟩ := Option.map_eq_some_iff.mp hm
          exact x.bytes_length
        have hnotices : ∀ m ∈ (s.noticeQueue h).notices.head?.map Notice.bytes, m.length = 8 := by
          intro m hm
          obtain ⟨x, -, rfl⟩ := Option.map_eq_some_iff.mp hm
          exact x.bytes_length
        cases hb : r.body with
        | fixed bytes => exact (some_getD_getElem? (by rw [hb] at hlt; exact hlt)).symm
        | status bytes n => exact (some_getD_getElem? (by rw [hb] at hlt; exact hlt)).symm
        | drain n =>
          rw [(s.replyByte_counted h n _).1]
          exact countedByte_carries ((s.session h).state = .attached) n (by decide) hrecords _
        | notices n =>
          rw [(s.replyByte_counted h n _).2]
          exact countedByte_carries ((s.session h).state = .attached) n (by decide) hnotices _
      · rw [ht, s.transferTo_eq, if_neg fun hi => hne ((Reply.endsItem_iff hlt).mp hi)]
        exact rfl
      · exact congrArg _ (item hb rfl he).symm
      · exact congrArg _ (item hb rfl he).symm
      · exact congrArg _ (item hb rfl he).symm
  · rw [if_neg hsent] at hout
    obtain ⟨b, hb⟩ := Option.ne_none_iff_exists'.mp (hready.resolve_left hsent)
    have ho := hout.trans hb
    obtain ⟨hothers, hport, hreply, hrest⟩ := plain ho fun h => absurd h hsent
    exact ⟨_, b, rfl, ho, hothers, hport, fun _ => ⟨hb, hreply, hrest⟩, fun h => absurd h hsent,
      fun h => absurd h hsent⟩

end Sys2Proof.Machine

/-! PROOFS. The frames of the ports (sections 9.1, 9.2, 9.4, 10.2): their beginning and end, the bytes
taken and refused, and the table of the commands. -/

namespace Sys2Proof.Machine

/-! ### The table of the commands (R177) -/

/-- A command has one code, and a code one command. -/
theorem Command.ofCode_eq_some_iff (b : Byte) (c : Command) : Command.ofCode b = some c ↔ b = c.code := by
  constructor
  · intro h
    have := List.find?_some h
    simpa using (beq_iff_eq.mp this).symm
  · rintro rfl
    cases c <;> rfl

theorem Command.ofCode_code (c : Command) : Command.ofCode c.code = some c :=
  (Command.ofCode_eq_some_iff _ _).mpr rfl

theorem greatestLength_submitJob (bytes : List Byte) :
    greatestLength .submitJob bytes =
      match bytes[10]? with
      | none => 776
      | some n => 11 + 3 * n.toNat := by
  unfold greatestLength submitLength
  dsimp only
  cases bytes[10]? <;> rfl

namespace State

variable {s : State} {h : HostId} {b : Byte}

/-! ### The refusals of the I2C port (R170) -/

theorem refusesEarly_iff (s : State) :
    s.refusesEarly = true ↔ (s.session 2).state = .attached ∧ s.slotRuleAdmits 2 = false := by
  simp [refusesEarly]

/-- A port in a phase that refuses a byte is within a frame. -/
theorem i2cWrites_of_refusalOf {o : CmdOutcome} (ho : s.refusalOf b = some o) :
    s.i2cWrites = true ↔ (s.port 2).readPhase = .notBegun := by
  have hp : (s.port 2).phase ≠ .idle := by
    intro hi
    simp [refusalOf, hi] at ho
  simp [i2cWrites, hp]

theorem refusalOf_command (hp : (s.port 2).phase = .command) :
    s.refusalOf b =
      if Command.ofCode b = none then some .unknownCommand
      else if b = 0x10 ∧ (s.session 2).state = .attached ∧ s.slotRuleAdmits 2 = false then some .noSlot
      else none := by
  have hsubmit : b = 0x10 ↔ Command.ofCode b = some .submitJob := (Command.ofCode_eq_some_iff b .submitJob).symm
  unfold refusalOf
  dsimp only
  rw [hp]
  simp only [hsubmit, ← refusesEarly_iff]
  cases Command.ofCode b with
  | none => rfl
  | some c =>
    cases c <;> simp

/-- The refusal of a byte that the port refuses (R170, R171). -/
theorem i2cByteRefused_eq (b : Byte) :
    exec (.i2cByteRefused b) s = .next
      (match s.refusalOf b with
      | none => s
      | some o => if (s.port 2).readPhase = .notBegun then s.refuseByte b o else s) := by
  have hexec : exec (.i2cByteRefused b) s = execI2cByteRefused b s := rfl
  rw [hexec]
  unfold execI2cByteRefused
  cases ho : s.refusalOf b with
  | none => cases s.i2cWrites <;> rfl
  | some o =>
    have hw := i2cWrites_of_refusalOf ho
    by_cases hr : (s.port 2).readPhase = .notBegun
    · rw [hw.mpr hr]
      dsimp only
      rw [if_pos hr]
    · rw [Bool.eq_false_iff.mpr fun h => hr (hw.mp h)]
      dsimp only
      rw [if_neg hr]

/-! ### The end of a frame (R159) -/

theorem endFrame_idle (hp : (s.port h).phase = .idle) (partialByte : Bool) : s.endFrame h partialByte = s :=
  if_pos hp

theorem endFrame_bare (hp : (s.port h).phase ≠ .idle) (hc : (s.port h).command = none) (partialByte : Bool) :
    s.endFrame h partialByte = s.idlePort h := by
  unfold endFrame
  rw [if_neg hp, hc]

theorem endFrame_command {code : Byte} (hp : (s.port h).phase ≠ .idle) (hc : (s.port h).command = some code)
    (partialByte : Bool) : s.endFrame h partialByte = s.endCommand h code partialByte := by
  unfold endFrame
  rw [if_neg hp, hc]

/-- The end of a frame whose code names a command, nothing pending (R159). -/
theorem endCommand_known {c : Command} (hn : (s.port h).pendingOutcome = none) (partialByte : Bool) :
    s.endCommand h c.code partialByte =
      if c.isRead = true then
        s.finishFrame h (if (s.port h).phase = .reply then (s.port h).lastOutcome else .frameError)
      else if partialByte = true ∨ (s.port h).required ≠ some (s.port h).params.length then
        s.finishFrame h .frameError
      else (judgeWrite c h (s.port h).params s).2.finishFrame h (judgeWrite c h (s.port h).params s).1 := by
  unfold endCommand
  dsimp only
  rw [hn, Command.ofCode_code]
  dsimp only
  simp only [Bool.or_eq_true, bne_iff_ne, apply_ite (s.finishFrame h)]

theorem endFrame_phase (s : State) (h : HostId) (partialByte : Bool) :
    ((s.endFrame h partialByte).port h).phase = .idle := by
  have finished (u : State) (o : CmdOutcome) : ((u.finishFrame h o).port h).phase = .idle := by
    rw [(u.finishFrame_ends h o).port]
  unfold endFrame
  split
  · assumption
  · split
    · unfold idlePort
      rw [setPort_port_self]
    · unfold endCommand
      dsimp only
      split
      · exact finished ..
      · exact finished ..
      · split
        · split <;> exact finished ..
        · split <;> exact finished ..

theorem endFrame_adr (s : State) (h : HostId) (partialByte : Bool) :
    (s.endFrame h partialByte).i2cAddress = s.i2cAddress :=
  congrArg (Config.i2cBase ++ ·) (s.endFrame_events h partialByte).quiet.adr

/-! ### STARTs on the I2C bus (R167, R168, R171) -/

theorem i2cStart_idle (hp : (s.port 2).phase = .idle) (address : BitVec 7) (read : Bool) :
    s.i2cStart address read = if address = s.i2cAddress then s.beginFrame 2 read else s := by
  unfold i2cStart
  dsimp only
  rw [hp]
  simp only [beq_iff_eq]

theorem i2cStart_discarding (hp : (s.port 2).phase = .discarding) (address : BitVec 7) (read : Bool) :
    s.i2cStart address read = s := by
  unfold i2cStart
  dsimp only
  rw [hp]

/-- Within a frame a START begins its read phase, or ends it and stands at the beginning of another. -/
theorem i2cStart_within (hp : (s.port 2).phase = .command ∨ (s.port 2).phase = .parameters ∨
    (s.port 2).phase = .reply) (address : BitVec 7) (read : Bool) :
    s.i2cStart address read =
      if (address = s.i2cAddress ∧ read = true) ∧ (s.port 2).readPhase = .notBegun then
        s.setPort 2 { s.port 2 with readPhase := .begun }
      else (s.endFrame 2 false).i2cStart address read := by
  rw [i2cStart_idle (s.endFrame_phase 2 false), endFrame_adr]
  unfold i2cStart
  dsimp only
  rcases hp with hp | hp | hp <;> rw [hp] <;> simp only [Bool.and_eq_true, beq_iff_eq]

end State

/-- Settles O39. -/
theorem aFrameBeginsWithItsStatusCapture : Obligations.AFrameBeginsWithItsStatusCapture := by
  intro s begun
  refine ⟨fun p h hp => ?_, fun address read hp => ?_, fun address read _ => rfl⟩
  · obtain rfl : h = spiHost p := Fin.ext hp
    have hexec : exec (.frameBegin (.csFall p)) s =
        if (s.port (spiHost p)).phase = .idle then .next (s.beginFrame (spiHost p) false) else .next s := rfl
    rw [hexec]
    exact (apply_ite _ _ _ _).symm
  · have hexec : exec (.frameBegin (.start address read)) s = .next (s.i2cStart address read) := rfl
    rw [hexec, State.i2cStart_idle hp]
    exact rfl

/-- Settles O41. -/
theorem theI2cPortRefusesBytes : Obligations.TheI2cPortRefusesBytes := by
  refine ⟨fun c bytes => ?_, fun b s => ?_⟩
  · cases c
    case submitJob =>
      rw [greatestLength_submitJob]
      dsimp only
      cases bytes[10]? <;> rfl
    all_goals rfl
  intro p refusal
  have hrefusal : s.refusalOf b = refusal := by
    unfold refusal p
    cases hp : (s.port 2).phase with
    | command => exact State.refusalOf_command hp
    | _ => simp only [State.refusalOf, hp] <;> rfl
  have heq := State.i2cByteRefused_eq (s := s) b
  rw [hrefusal] at heq
  refine ⟨heq, fun o ho => ?_⟩
  rw [heq, ho]
  have hexec : exec (.byteTaken 2 b) s = .next (s.writeByte 2 b) := rfl
  have hw := State.i2cWrites_of_refusalOf (hrefusal.trans ho)
  rw [hexec]
  unfold State.writeByte
  rw [if_neg (by decide), hrefusal, ho]
  exact congrArg _ (if_congr hw rfl rfl)

/-- Settles O42. -/
theorem aRepeatedStartBeginsTheReadPhase : Obligations.ARepeatedStartBeginsTheReadPhase := by
  intro s p
  have hbegin : exec .readPhaseBegin s = .next (s.i2cStart s.i2cAddress true) := rfl
  have hstop : exec (.frameEnd .stop) s = .next (s.endFrame 2 false) := rfl
  have hrepeat (address : BitVec 7) (read : Bool) :
      exec (.frameEnd (.repeatedStart address read)) s = .next (s.i2cStart address read) := rfl
  have hstart (u : State) (address : BitVec 7) (read : Bool) :
      exec (.frameBegin (.start address read)) u = .next (u.i2cStart address read) := rfl
  refine ⟨fun hp hr => ?_, fun hp hr => ⟨_, hstop, ?_⟩, fun hp => ?_, fun hp address read => ?_, fun hp => rfl,
    rfl, fun address read hne hp => ⟨_, hstop, ?_⟩⟩
  · rw [hbegin, State.i2cStart_within hp, if_pos ⟨⟨rfl, rfl⟩, hr⟩]
    exact rfl
  · rw [hbegin, State.i2cStart_within hp, if_neg fun h => hr h.2, hstart]
  · rw [hbegin, State.i2cStart_discarding hp]
  · rw [hrepeat, State.i2cStart_discarding hp]
  · rw [hrepeat, State.i2cStart_within hp, if_neg, hstart]
    rintro ⟨⟨rfl, rfl⟩, -⟩
    simp at hne

/-- Settles O43. -/
theorem aFrameEndActsByItsCase : Obligations.AFrameEndActsByItsCase := by
  intro how h partialByte s hhow p
  have hexec : exec (.frameEnd how) s = .next (s.endFrame h partialByte) := by
    rcases hhow with ⟨port, rfl, hp⟩ | ⟨rfl, rfl, rfl⟩
    · obtain rfl : h = spiHost port := Fin.ext hp
      rfl
    · rfl
  rw [hexec]
  refine ⟨fun hp => ?_, fun hp hc => ?_, fun hp code hc => ?_⟩
  · rw [State.endFrame_idle hp]
  · rw [State.endFrame_bare hp hc]
    exact rfl
  refine ⟨_, rfl, ?_⟩
  rw [State.endFrame_command hp hc]
  refine ⟨fun o ho => ?_, fun hn hu => ?_, fun hn c hk => ?_⟩
  · have e : s.endCommand h code partialByte = s.finishFrame h o := by
      unfold State.endCommand
      dsimp only
      rw [show (s.port h).pendingOutcome = some o from ho]
    rw [e]
    exact s.finishFrame_ends h o
  · have e : s.endCommand h code partialByte = s.finishFrame h .unknownCommand := by
      unfold State.endCommand
      dsimp only
      rw [show (s.port h).pendingOutcome = none from hn, hu]
    rw [e]
    exact s.finishFrame_ends h _
  · obtain rfl := (Command.ofCode_eq_some_iff code c).mp hk
    rw [State.endCommand_known hn]
    refine ⟨fun hr => ?_, fun hr hbad => ?_, fun hr hpart hreq hphase i hf => ?_⟩
    · rw [if_pos hr]
      exact s.finishFrame_ends h _
    · rw [if_neg (by simp [hr]), if_pos hbad]
      exact s.finishFrame_ends h _
    · have ha : (s.port h).awaits c = true := by
        have hphase : (s.port h).phase = .parameters := hphase
        have hc : (s.port h).command = some c.code := hc
        simp [Port.awaits, hphase, hc, hr]
      have hj : judgeFrame c h p.params s = judgeWrite c h p.params s :=
        State.judgeFrame_of_not_early fun _ h2 => .inl (h2 ▸ hphase)
      rw [if_neg (by simp [hr]), if_neg (not_or.mpr ⟨by simp [hpart], not_not.mpr hreq⟩), exec_write_row hf hr,
        s.runWrite_awaited h ha, hj]

end Sys2Proof.Machine

/-! PROOFS. The bytes that a port takes (sections 9.1, 9.2, 9.4). -/

namespace Sys2Proof.Machine

/-- The MISO byte of the same clocks reaches the port's own two fields alone (R162; log entry 12). -/
theorem Port.clocked_eq (p : Port) (h : HostId) :
    p.clocked h =
      { p with statusSent := (p.clocked h).statusSent, lastSent := (p.clocked h).lastSent } := by
  unfold clocked
  split <;> rfl

theorem Port.clocked_sent (p : Port) (h : HostId) :
    if h = 2 then (p.clocked h).statusSent = p.statusSent ∧ (p.clocked h).lastSent = p.lastSent
    else (p.clocked h).statusSent = true ∧
      (p.clocked h).lastSent = if p.phase = .command then p.statusCapture else some 0x00 := by
  unfold clocked isSpi
  by_cases hh : h = 2
  · simp [hh]
  · simp [hh]

namespace State

variable {s : State} {h : HostId} {b : Byte} {c : Command}

theorem exec_byteTaken (s : State) (h : HostId) (b : Byte) :
    exec (.byteTaken h b) s = .next (s.writeByte h b) := rfl

/-- A byte that the port does not refuse is taken (R169, R170). -/
theorem writeByte_accepts (ha : h ≠ 2 ∨ s.i2cWrites = true ∧ s.refusalOf b = none) :
    s.writeByte h b = s.acceptByte h b := by
  unfold writeByte isSpi
  rcases ha with h2 | ⟨hw, hr⟩
  · exact if_pos (by simpa using h2)
  · rw [hw, hr]
    exact ite_self _

theorem takeCommand_unknown (hb : Command.ofCode b = none) :
    s.takeCommand h b =
      s.setPort h { (s.port h).clocked h with phase := .discarding, command := some b } := by
  unfold takeCommand
  dsimp only
  rw [hb]

theorem takeCommand_readStatus (hb : Command.ofCode b = some .readStatus) :
    s.takeCommand h b = s.fixReply h .readStatus [] (answerRead .readStatus h [] s) := by
  unfold takeCommand
  dsimp only
  rw [hb]
  rfl

theorem takeCommand_known (hb : Command.ofCode b = some c) (hc : c ≠ .readStatus) :
    s.takeCommand h b =
      s.setPort h { (s.port h).clocked h with
        phase := .parameters, command := some b, required := requiredLength c [] } := by
  unfold takeCommand
  dsimp only
  rw [hb]
  cases c
  case readStatus => contradiction
  all_goals rfl

theorem takeParam_write (hc : (s.port h).command = some c.code) (hr : c.isRead = false) :
    s.takeParam h b =
      s.setPort h { (s.port h).clocked h with
        params := (s.port h).params ++ [b], required := requiredLength c ((s.port h).params ++ [b]) } := by
  have hcommand : ((s.port h).clocked h).command = some c.code := by rw [Port.clocked_eq]; exact hc
  have hparams : ((s.port h).clocked h).params = (s.port h).params := by rw [Port.clocked_eq]
  unfold takeParam
  dsimp only
  rw [hcommand, Option.bind_some, Command.ofCode_code]
  dsimp only
  rw [hr, hparams]
  rfl

theorem takeParam_read (hc : (s.port h).command = some c.code) (hr : c.isRead = true) :
    s.takeParam h b =
      s.fixReply h c ((s.port h).params ++ [b]) (answerRead c h ((s.port h).params ++ [b]) s) := by
  have hcommand : ((s.port h).clocked h).command = some c.code := by rw [Port.clocked_eq]; exact hc
  have hparams : ((s.port h).clocked h).params = (s.port h).params := by rw [Port.clocked_eq]
  unfold takeParam
  dsimp only
  rw [hcommand, Option.bind_some, Command.ofCode_code]
  dsimp only
  rw [hr, hparams]
  rfl

/-- A byte taken changes its port alone, and never the read phase. -/
theorem acceptByte_setPort (s : State) (h : HostId) (b : Byte) :
    ∃ x, s.acceptByte h b = s.setPort h x ∧ x.readPhase = (s.port h).readPhase := by
  have same : s = s.setPort h (s.port h) := by
    unfold setPort
    rw [show s.ports.put h (s.port h) = s.ports from Table.put_get ..]
  have clocked : ((s.port h).clocked h).readPhase = (s.port h).readPhase := by rw [Port.clocked_eq]
  unfold acceptByte
  split
  · unfold takeCommand
    dsimp only
    split
    · exact ⟨_, rfl, clocked⟩
    · exact ⟨_, rfl, rfl⟩
    · exact ⟨_, rfl, clocked⟩
  · unfold takeParam
    dsimp only
    split
    · exact ⟨_, same, rfl⟩
    · split
      · exact ⟨_, rfl, rfl⟩
      · exact ⟨_, rfl, clocked⟩
  · exact ⟨_, same, rfl⟩

end State

/-- Settles O40. -/
theorem bytesTakenMoveThePhase : Obligations.BytesTakenMoveThePhase := by
  refine ⟨by decide, Command.ofCode_eq_some_iff, fun c bytes => ?_, fun h b s hacc => ?_⟩
  · cases c
    case attach => cases bytes <;> rfl
    all_goals rfl
  intro p sent
  have hsent : sent (p.clocked h) (if p.phase = .command then p.statusCapture else some 0x00) :=
    p.clocked_sent h
  have clockedPhase : (p.clocked h).phase = p.phase := by rw [Port.clocked_eq]
  have clockedCommand : (p.clocked h).command = p.command := by rw [Port.clocked_eq]
  have clockedParams : (p.clocked h).params = p.params := by rw [Port.clocked_eq]
  have clockedOutcome : (p.clocked h).lastOutcome = p.lastOutcome := by rw [Port.clocked_eq]
  have hexec : exec (.byteTaken h b) s = .next (s.acceptByte h b) := by
    rw [State.exec_byteTaken, State.writeByte_accepts hacc]
  obtain ⟨x, hx, hread⟩ := s.acceptByte_setPort h b
  have atCommand (hp : p.phase = .command) : s.acceptByte h b = s.takeCommand h b := by
    unfold State.acceptByte
    rw [show (s.port h).phase = .command from hp]
  have atParam (hp : p.phase = .parameters) : s.acceptByte h b = s.takeParam h b := by
    unfold State.acceptByte
    rw [show (s.port h).phase = .parameters from hp]
  refine ⟨s.acceptByte h b, hexec, by rw [hx]; rfl, fun g hg => by rw [hx, State.setPort_port_ne _ _ _ hg],
    by rw [hx, State.setPort_port_self]; exact hread, fun hp c hc => ?_, fun hp hc => ?_, fun hp c hc hr => ?_,
    fun hp i c hc hr hempty hphase hf => ?_, fun hp => ?_⟩
  · rw [atCommand hp]
    by_cases hst : c = .readStatus
    · subst hst
      rw [hexec, atCommand hp, State.takeCommand_readStatus hc, if_pos rfl]
      have fixes := s.fixReply_fixes h .readStatus [] (answerRead .readStatus h [] s)
      refine ⟨?_, ⟨_, _, fixes⟩, rfl⟩
      rw [fixes.port, (Command.ofCode_eq_some_iff ..).mp hc]
      rfl
    · rw [State.takeCommand_known hc hst, State.setPort_port_self, if_neg hst]
      rw [if_pos hp] at hsent
      exact ⟨rfl, hsent, rfl, clockedParams, rfl, clockedOutcome⟩
  · rw [atCommand hp, State.takeCommand_unknown hc, State.setPort_port_self]
    rw [if_pos hp] at hsent
    exact ⟨rfl, rfl, hsent, clockedOutcome⟩
  · rw [atParam hp, State.takeParam_write hc hr, State.setPort_port_self]
    rw [if_neg (by rw [hp]; decide)] at hsent
    exact ⟨clockedPhase.trans hp, clockedCommand, rfl, hsent, rfl, clockedOutcome⟩
  · have ha : (s.port h).awaits c = true := by
      have hp : (s.port h).phase = .parameters := hp
      have hc : (s.port h).command = some c.code := hc
      have hphase : (s.port h).readPhase = .notBegun := hphase
      simp [Port.awaits, hp, hc, hphase]
    have hempty : (s.port h).params = [] := hempty
    rw [hexec, atParam hp, State.takeParam_read hc hr, hempty, exec_read_row hf hr, s.runRead_awaited h ha]
    rfl
  · have hp : (s.port h).phase = .reply ∨ (s.port h).phase = .discarding ∨ (s.port h).phase = .idle := hp
    unfold State.acceptByte
    rcases hp with hp | hp | hp <;> rw [hp]

end Sys2Proof.Machine

/-! PROOFS. The timebase (sections 4.4, 5.1, 5.2, 8.4): what a tick takes first, and what it moves. -/

namespace Sys2Proof.Machine

/-- Rows that each answer a next state are executed one behind the other. -/
theorem execAll_append {l m : List Instr} {s u : State} (h : execAll l s = .next u) :
    execAll (l ++ m) s = execAll m u := by
  induction l generalizing s with
  | nil => cases h; rfl
  | cons i l ih =>
    unfold execAll at h
    rw [List.cons_append]
    cases hi : exec i s with
    | next t =>
      rw [hi] at h
      rw [execAll, hi]
      exact ih h
    | fault f => rw [hi] at h; cases h
    | refused r => rw [hi] at h; cases h

theorem execAll_cons {i : Instr} {l : List Instr} {s t : State} (h : exec i s = .next t) :
    execAll (i :: l) s = execAll l t := by
  rw [execAll, h]

namespace State

variable (s : State)

/-! ### The tick (R90, R99, R100, R148) -/

theorem expireDelay_none {g : GeneratorId} (h : (s.generator g).remaining ≠ some 0) : s.expireDelay g = s := by
  simp [expireDelay, Generator.due, h]

theorem expirePeriod_none {g : GeneratorId} (h : (s.generator g).remaining ≠ some 0) : s.expirePeriod g = s := by
  simp [expirePeriod, Generator.due, h]

theorem expireLease_none {h : HostId} (hl : (s.session h).lease ≠ some 0) : s.expireLease h = s := by
  simp [expireLease, hl]

/-- A mark that stands already, or that nothing sets, stays (R83). -/
theorem reachStale_none {h : HostId}
    (hm : s.headReached h (s.resultQueue h).records = true → (s.resultQueue h).staleMark = true) :
    s.reachStale h = s := by
  unfold reachStale
  split
  · next hr =>
    have : ({ s.resultQueue h with staleMark := true } : ResultQueue) = s.resultQueue h := by rw [← hm hr]
    rw [this]
    unfold setResultQueue
    rw [show s.results.put h (s.resultQueue h) = s.results from Table.put_get ..]
  · rfl

/-- With nothing due, nothing is taken before a tick (log entry 5). -/
theorem takeDue_none (hg : ∀ g, (s.generator g).remaining ≠ some 0) (hl : ∀ h, (s.session h).lease ≠ some 0)
    (hm : ∀ h, s.headReached h (s.resultQueue h).records = true → (s.resultQueue h).staleMark = true) :
    s.takeDue = s := by
  have fixed {α : Type} {f : State → α → State} (hf : ∀ a, f s a = s) (l : List α) : l.foldl f s = s := by
    induction l with
    | nil => rfl
    | cons a l ih => rw [List.foldl_cons, hf, ih]
  unfold takeDue
  dsimp only
  rw [fixed fun g => by rw [s.expireDelay_none (hg g), s.expirePeriod_none (hg g)],
    fixed fun h => s.expireLease_none (hl h), fixed fun h => s.reachStale_none (hm h)]

end State

/-- What an open completion still leaves is one row of its own (log entry 6). -/
theorem execAll_finishCompletion (s : State) :
    execAll (if s.completion = none then [] else [.conversionComplete [.watch, .job, .select]]) s =
      .next s.finishCompletion := by
  cases hc : s.completion with
  | none =>
    have hfinish : s.finishCompletion = s := by simp [State.finishCompletion, hc]
    rw [if_pos rfl, hfinish]
    exact rfl
  | some c =>
    have hfinish : s.finishCompletion = s.takeShares [.watch, .job, .select] := by
      unfold State.finishCompletion
      rw [hc]
      exact if_pos rfl
    rw [if_neg (by simp), execAll_cons (exec_conversionComplete ..), State.handOn_some hc, hfinish]
    exact rfl

/-- The expiries that are due are the rows of the generators, the leases and the stale marks in their
order (log entry 5). -/
theorem execAll_takeDue (s : State) :
    execAll [.triggerDelayExpiry 0, .triggerPeriodExpiry 0, .triggerDelayExpiry 1, .triggerPeriodExpiry 1,
      .triggerDelayExpiry 2, .triggerPeriodExpiry 2, .triggerDelayExpiry 3, .triggerPeriodExpiry 3,
      .leaseTimerExpiry 0, .leaseTimerExpiry 1, .leaseTimerExpiry 2,
      .staleIntervalReached 0, .staleIntervalReached 1, .staleIntervalReached 2] s = .next s.takeDue := by
  have delay (g : GeneratorId) (u : State) : exec (.triggerDelayExpiry g) u = .next (u.expireDelay g) := rfl
  have period (g : GeneratorId) (u : State) : exec (.triggerPeriodExpiry g) u = .next (u.expirePeriod g) := rfl
  have lease (h : HostId) (u : State) : exec (.leaseTimerExpiry h) u = .next (u.expireLease h) := rfl
  have stale (h : HostId) (u : State) : exec (.staleIntervalReached h) u = .next (u.reachStale h) := rfl
  unfold State.takeDue allGenerators allHosts
  simp only [execAll, delay, period, lease, stale, List.foldl_cons, List.foldl_nil]

/-- Settles O44. -/
theorem ticksCountDownAndHeadsGrowStale : Obligations.TicksCountDownAndHeadsGrowStale := by
  intro s tick
  refine ⟨fun h => ?_, ?_, fun hn hg hl hm => ?_⟩
  · have hexec : exec (.staleIntervalReached h) s = .next (s.reachStale h) := rfl
    dsimp only
    rw [hexec]
    unfold State.reachStale
    rw [State.headReached_eq]
    cases hq : (s.resultQueue h).records with
    | nil => rfl
    | cons r _ =>
      simp only [decide_eq_true_eq]
      refine congrArg _ (if_congr Iff.rfl ?_ rfl)
      rw [← hq]
      exact rfl
  · refine ⟨s.finishCompletion.takeDue, ?_, exec_timebaseTick s⟩
    rw [execAll_append (execAll_finishCompletion s)]
    exact execAll_takeDue _
  · have hfinish : s.finishCompletion = s := by simp [State.finishCompletion, hn]
    rw [exec_timebaseTick, hfinish, s.takeDue_none hg hl hm]
    exact rfl

end Sys2Proof.Machine

/-! PROOFS. Isolation of the hosts (sections 1.2, 3.6, 4.2, 5.2, 6.2, 8.5, 9.1): what a command of one
host leaves of another's holdings, stated as a relation that composes. -/

namespace Sys2Proof.Machine

/-- `t` leaves of host `h` what `s` holds: its session, port, records and discarded-records count, the
channels and generators it owns and the names of its jobs; and of the watches it owns all but the state,
and the state too where `still` holds. -/
structure State.Spares (h : HostId) (still : Prop) (s t : State) : Prop where
  session : t.session h = s.session h
  port : t.port h = s.port h
  records : (t.resultQueue h).records = (s.resultQueue h).records
  discarded : (t.resultQueue h).discarded = (s.resultQueue h).discarded
  channel : ∀ x, (s.channel x).owner = some h → t.channel x = s.channel x
  generator : ∀ x, (s.generator x).owner = some h → t.generator x = s.generator x
  watch : ∀ x, (s.watch x).owner = some h → t.watch x = { s.watch x with state := (t.watch x).state }
  watchStill : still → ∀ x, (s.watch x).owner = some h → t.watch x = s.watch x
  jobs : (t.jobs.map Job.id).filter (·.owner == h) = (s.jobs.map Job.id).filter (·.owner == h)

namespace State.Spares

variable {g h : HostId} {still : Prop} {s t u : State}

theorem refl (s : State) : s.Spares h still s :=
  ⟨rfl, rfl, rfl, rfl, fun _ _ => rfl, fun _ _ => rfl, fun _ _ => rfl, fun _ _ _ => rfl, rfl⟩

theorem trans (a : s.Spares h still t) (b : t.Spares h still u) : s.Spares h still u where
  session := b.session.trans a.session
  port := b.port.trans a.port
  records := b.records.trans a.records
  discarded := b.discarded.trans a.discarded
  channel x hx := (b.channel x ((congrArg Channel.owner (a.channel x hx)).trans hx)).trans (a.channel x hx)
  generator x hx :=
    (b.generator x ((congrArg Generator.owner (a.generator x hx)).trans hx)).trans (a.generator x hx)
  watch x hx := by
    have ha := a.watch x hx
    rw [b.watch x (by rw [ha]; exact hx), ha]
  watchStill hs x hx :=
    (b.watchStill hs x ((congrArg Watch.owner (a.watchStill hs x hx)).trans hx)).trans (a.watchStill hs x hx)
  jobs := b.jobs.trans a.jobs

theorem of_engine (f : s.EngineFrame t) : s.Spares h still t where
  session := congrArg (·.get h) f.sessions
  port := congrArg (·.get h) f.ports
  records := by rw [f.queue h]
  discarded := by rw [f.queue h]
  channel x _ := f.channel x
  generator x _ := f.generator x
  watch x _ := by rw [f.watch x]
  watchStill _ x _ := f.watch x
  jobs := by rw [f.ids]

/-- The shares of another host's completion spare the host. -/
theorem of_shares (f : s.SharesFrame g t) (hne : h ≠ g) (hw : still → ∀ x, t.watch x = s.watch x) :
    s.Spares h still t where
  session := congrArg (·.get h) f.sessions
  port := congrArg (·.get h) f.ports
  records := by rw [f.share.queue h hne]; rfl
  discarded := by rw [f.share.queue h hne]; rfl
  channel x _ := congrArg (·.get x) f.channels
  generator x _ := congrArg (·.get x) f.generators
  watch x _ := f.share.watch x
  watchStill hs x _ := hw hs x
  jobs := f.share.others h hne

/-- What reaches the session, the port and the result queue of another host alone. -/
theorem of_other (hsessions : t.session h = s.session h) (hports : t.port h = s.port h)
    (hqueue : t.resultQueue h = s.resultQueue h) (hchannels : t.channels = s.channels)
    (hgenerators : t.generators = s.generators) (hwatches : t.watches = s.watches) (hjobs : t.jobs = s.jobs) :
    s.Spares h still t where
  session := hsessions
  port := hports
  records := by rw [hqueue]
  discarded := by rw [hqueue]
  channel x _ := congrArg (·.get x) hchannels
  generator x _ := congrArg (·.get x) hgenerators
  watch x _ := by rw [show t.watch x = s.watch x from congrArg (·.get x) hwatches]
  watchStill _ x _ := congrArg (·.get x) hwatches
  jobs := by rw [hjobs]

/-- A channel that the host does not own may change. -/
theorem setChannel {c : ChannelId} (hc : (s.channel c).owner ≠ some h) (x : Channel) :
    s.Spares h still (s.setChannel c x) :=
  { refl s with channel := fun _ hd => s.setChannel_channel_ne c x fun e => hc (e ▸ hd) }

theorem setGenerator {i : GeneratorId} (hi : (s.generator i).owner ≠ some h) (x : Generator) :
    s.Spares h still (s.setGenerator i x) :=
  { refl s with generator := fun _ hd => s.setGenerator_generator_ne i x fun e => hi (e ▸ hd) }

theorem setWatch {w : WatchId} (hw : (s.watch w).owner ≠ some h) (x : Watch) :
    s.Spares h still (s.setWatch w x) := by
  have kept (d : WatchId) (hd : (s.watch d).owner = some h) : (s.setWatch w x).watch d = s.watch d :=
    s.setWatch_watch_ne w x fun e => hw (e ▸ hd)
  exact ⟨rfl, rfl, rfl, rfl, fun _ _ => rfl, fun _ _ => rfl, fun d hd => by rw [kept d hd], fun _ => kept, rfl⟩

end State.Spares

/-! ### The judgements of one host's commands -/

/-- A thing that is open to a host, or owned by it, is not owned by another. -/
theorem owner_ne_of_openTo {owner : Option HostId} {g h : HostId} (hne : h ≠ g) (ho : openTo owner g = true) :
    owner ≠ some h := by
  rintro rfl
  simp [openTo, hne] at ho

theorem owner_ne_of_owns {owner : Option HostId} {g h : HostId} (hne : h ≠ g) (ho : owner = some g) :
    owner ≠ some h := by
  rintro rfl
  exact hne (Option.some.inj ho)

namespace State

variable {g h : HostId} {still : Prop} {s : State} {params : List Byte} (hne : h ≠ g)

theorem judge_spares {α : Type} {fits : Bool} {p : Option α} {act : α → CmdOutcome × State}
    (hact : ∀ a, p = some a → s.Spares h still (act a).2) : s.Spares h still (s.judge g fits p act).2 := by
  rcases s.judge_cases g fits p act with e | ⟨a, -, -, hp, e⟩
  · rw [e]; exact .refl s
  · rw [e]; exact hact a hp

include hne

theorem judgeAttach_spares : s.Spares h still (judgeAttach g params s).2 := by
  rw [judgeAttach_eq]
  split
  · exact .refl s
  · split
    · exact .refl s
    · split
      · exact .refl s
      · next o _ =>
        exact .of_other (Table.get_put_ne _ _ hne) rfl (Table.get_put_ne _ _ hne) rfl rfl rfl rfl

theorem judgeSetHostOptions_spares : s.Spares h still (judgeSetHostOptions g params s).2 :=
  judge_spares fun o _ =>
    Spares.trans (t := s.withOptions g o)
      (.of_other (Table.get_put_ne _ _ hne) rfl (Table.get_put_ne _ _ hne) rfl rfl rfl rfl)
      (.of_engine (s.replaceOptions_frame g o))

theorem judgeSubmitJob_spares : s.Spares h still (judgeSubmitJob g params s).2 := by
  refine judge_spares fun j hp => ?_
  have hj := parseJob_atAdmission hp
  split
  · exact .refl s
  · split
    · refine Spares.trans (t := { s with jobs := s.jobs ++ [j] }) ?_ (.of_engine (s.admitJob_frame j))
      refine { Spares.refl s with jobs := ?_ }
      have : (j.id.owner == h) = false := by rw [hj.owner]; simpa using hne.symm
      simp [this]
    · exact .refl s

omit hne in
/-- Shares that are not the watch unit's leave the watches. -/
theorem foldl_takeShare_watch_unasked {l : List CompletionShare} (hl : .watch ∉ l) (s : State) (w : WatchId) :
    (l.foldl State.takeShare s).watch w = s.watch w := by
  induction l generalizing s with
  | nil => rfl
  | cons x l ih =>
    obtain ⟨hx, hl⟩ := not_or.mp (List.mem_cons.not.mp hl)
    rw [List.foldl_cons, ih hl]
    cases hc : s.completion with
    | none => rw [s.takeShare_none hc]
    | some c => rw [takeShare_watch hc (fun e => absurd e.symm hx), if_neg fun h => hx h.1.symm]

omit hne in
theorem withdraw_watch (s : State) (j : Job) (w : WatchId) : (s.withdraw j).watch w = s.watch w := by
  have removed : (s.removeJob j).watch w = s.watch w := (s.clearJob_engine j).watch w
  unfold withdraw
  split
  · exact ((s.removeJob j).schedule_engine.watch w).trans removed
  · exact removed

theorem judgeWithdrawJob_spares : s.Spares h still (judgeWithdrawJob g params s).2 := by
  refine judge_spares fun tag _ => ?_
  have hshares := s.withdrawal_shares ⟨g, tag⟩
  have settled (w : WatchId) : (s.settle [.job] (· == ⟨g, tag⟩)).watch w = s.watch w := by
    rcases s.settle_cases [.job] (· == ⟨g, tag⟩) with e | e
    · rw [e]
    · rw [e]; exact foldl_takeShare_watch_unasked (by decide) s w
  have hwatch (w : WatchId) : (s.withdrawal ⟨g, tag⟩).watch w = s.watch w := by
    unfold withdrawal
    dsimp only
    split
    · exact settled w
    · rw [withdraw_watch, settled]
  have e : s.Spares h still (s.withdrawal ⟨g, tag⟩) := .of_shares hshares hne fun _ => hwatch
  unfold withdrawal at e
  dsimp only at e ⊢
  cases hj : (s.settle [.job] (· == ⟨g, tag⟩)).findJob ⟨g, tag⟩ <;> simpa [hj] using e

/-- What a host gives up is its own (R151, R152). -/
theorem withoutHost_spares (s : State) (ended : SessionState) : s.Spares h still (s.withoutHost g ended) := by
  have other {owner : Option HostId} (ho : owner = some h) : owner ≠ some g := by
    rintro rfl
    exact hne (Option.some.inj ho).symm
  have kept (w : WatchId) (hw : (s.watch w).owner = some h) : (s.withoutHost g ended).watch w = s.watch w :=
    (Table.get_map ..).trans (if_neg (other hw))
  have queue : (s.withoutHost g ended).resultQueue h = s.resultQueue h := Table.get_put_ne _ _ hne
  refine ⟨Table.get_put_ne _ _ hne, rfl, by rw [queue], by rw [queue],
    fun c hc => (Table.get_map ..).trans (if_neg (other hc)),
    fun i hi => (Table.get_map ..).trans (if_neg (other hi)), fun w hw => by rw [kept w hw], fun _ => kept, ?_⟩
  have hjobs : (s.withoutHost g ended).jobs = s.jobs.filter fun j => j.id.owner != g := rfl
  rw [hjobs, List.filter_map, List.filter_map, List.filter_filter]
  congr 1
  refine List.filter_congr fun j _ => ?_
  by_cases hj : j.id.owner = h
  · simp [hj, hne]
  · simp [hj]

/-- A teardown spares the other hosts, but for the states of watches that a completion still evaluates
(R125, R154; log entry 6). -/
theorem teardown_spares (ended : SessionState)
    (hstill : still → ∀ d ∈ s.completion, d.report.job.owner = g → .watch ∉ d.left) :
    s.Spares h still (s.teardown g ended) := by
  have hshares : s.SharesFrame g (s.settle [.watch, .job] fun id => id.owner == g) :=
    s.settle_shares (by simp) _
  refine Spares.trans (.of_shares hshares hne fun hs w => ?_)
    (Spares.trans (withoutHost_spares hne _ ended) (.of_engine (s.teardown_frame g ended)))
  unfold settle
  split
  · next c hc =>
    split
    · next hr =>
      refine foldl_takeShare_watch_taken (fun d hd => ?_) w
      exact hstill hs d hd (by cases hc.symm.trans hd; simpa using hr)
    · rfl
  · rfl

theorem judgeWrite_spares (c : Command)
    (hstill : still → c = .detach → ∀ d ∈ s.completion, d.report.job.owner = g → .watch ∉ d.left) :
    s.Spares h still (judgeWrite c g params s).2 := by
  have channel {x : ChannelId} {q : Prop} [Decidable q] (hq : q → (s.channel x).owner ≠ some h) (y : Channel)
      (o : CmdOutcome) : s.Spares h still (if q then (CmdOutcome.ok, s.setChannel x y) else (o, s)).2 := by
    split
    · next hx => exact .setChannel (hq hx) y
    · exact .refl s
  have generator {x : GeneratorId} {q : Prop} [Decidable q] (hq : q → (s.generator x).owner ≠ some h)
      (y : Generator) (o : CmdOutcome) :
      s.Spares h still (if q then (CmdOutcome.ok, s.setGenerator x y) else (o, s)).2 := by
    split
    · next hx => exact .setGenerator (hq hx) y
    · exact .refl s
  have watch {x : WatchId} {q : Prop} [Decidable q] (hq : q → (s.watch x).owner ≠ some h) (y : Watch)
      (o : CmdOutcome) : s.Spares h still (if q then (CmdOutcome.ok, s.setWatch x y) else (o, s)).2 := by
    split
    · next hx => exact .setWatch (hq hx) y
    · exact .refl s
  cases c with
  | attach => exact judgeAttach_spares hne
  | detach => exact judge_spares fun _ _ => teardown_spares hne _ fun hs => hstill hs rfl
  | setHostOptions => exact judgeSetHostOptions_spares hne
  | submitJob => exact judgeSubmitJob_spares hne
  | withdrawJob => exact judgeWithdrawJob_spares hne
  | claimChannel => exact judge_spares fun _ _ => channel (owner_ne_of_openTo hne) _ _
  | releaseChannel => exact judge_spares fun _ _ => channel (owner_ne_of_owns hne) _ _
  | configureChannel => exact judge_spares fun ⟨_, _, _⟩ _ => channel (owner_ne_of_openTo hne) _ _
  | claimTrigger => exact judge_spares fun _ _ => generator (owner_ne_of_openTo hne) _ _
  | releaseTrigger => exact judge_spares fun _ _ => generator (owner_ne_of_owns hne) _ _
  | stopTrigger => exact judge_spares fun _ _ => generator (owner_ne_of_owns hne) _ _
  | programTrigger =>
    refine judge_spares fun ⟨x, p⟩ _ => ?_
    dsimp only
    split
    · next ho =>
      split
      · exact .setGenerator (owner_ne_of_owns hne ho) _
      · exact .refl s
    · exact .refl s
  | startTrigger =>
    refine judge_spares fun x _ => ?_
    split
    · next ho =>
      split
      · exact Spares.trans (.setGenerator (owner_ne_of_owns hne ho) _) (.of_engine (s.startGenerator_frame x))
      · exact .refl s
    · exact .refl s
  | setWatch => exact judge_spares fun ⟨_, _⟩ _ => watch (owner_ne_of_openTo hne) _ _
  | clearWatch => exact judge_spares fun _ _ => watch (owner_ne_of_owns hne) _ _
  | readStatus | readJob | drainResults | readNotices | readChannel | readTrigger | readWatch => exact .refl s

theorem judgeFrame_spares (c : Command)
    (hstill : still → c = .detach → ∀ d ∈ s.completion, d.report.job.owner = g → .watch ∉ d.left) :
    s.Spares h still (judgeFrame c g params s).2 := by
  by_cases hc : c = .submitJob
  · subst hc
    change s.Spares h still (judgeSubmitFrame g params s).2
    unfold judgeSubmitFrame
    split
    · exact .refl s
    · exact judgeSubmitJob_spares hne
  · rw [judgeFrame_of_ne hc]
    exact judgeWrite_spares hne c hstill

/-- The end of a frame reaches the port and the session of its host alone (R147, R159). -/
theorem finishFrame_spares (s : State) (o : CmdOutcome) : s.Spares h still (s.finishFrame g o) := by
  have e := s.finishFrame_ends g o
  have rest := e.rest
  exact .of_other (e.otherSessions h hne) (e.otherPorts h hne) (by rw [rest]; rfl) (by rw [rest]) (by rw [rest])
    (by rw [rest]) (by rw [rest])

end State

/-- Settles O4, command by command. -/
theorem aCommandLeavesOtherHostsHoldings : Obligations.ACommandLeavesOtherHostsHoldings := by
  intro i g h c params s t hf hne ht
  rw [exec_command_row hf, Host.Outcome.next.injEq] at ht
  have spares : s.Spares h (c ≠ .detach ∨ ∀ d ∈ s.completion, d.report.job.owner = g → .watch ∉ d.left) t := by
    subst ht
    cases ha : (s.port g).awaits c with
    | false =>
      split
      · rw [s.runRead_not_awaited g ha]; exact .refl s
      · rw [s.runWrite_not_awaited g ha]; exact .refl s
    | true =>
      split
      · rw [s.runRead_awaited g ha]
        exact .of_other rfl (s.setPort_port_ne g _ hne) rfl rfl rfl rfl rfl
      · rw [s.runWrite_awaited g ha]
        refine State.Spares.trans (State.judgeFrame_spares hne c fun hs hd => ?_) (State.finishFrame_spares hne _ _)
        exact hs.resolve_left (not_not.mpr hd)
  refine ⟨spares.session, spares.port, spares.records, spares.discarded, spares.channel, spares.generator,
    fun x hx => ⟨spares.watch x hx, fun hs => spares.watchStill hs x hx⟩, ?_⟩
  have := spares.jobs
  rwa [List.filter_map, List.filter_map] at this

end Sys2Proof.Machine

/-! PROOFS. What the part does with a command does not look at the ports (sections 9.1, 9.2): each operation
behind a judgement commutes with the replacement of every port record. -/

namespace Sys2Proof.Machine

/-- The state with other port records. -/
def State.withPorts (s : State) (P : Table 3 Port) : State := { s with ports := P }

namespace State

variable (s : State) (P : Table 3 Port) (h : HostId) (c : JobClass)

theorem withPorts_ports : s.withPorts s.ports = s := rfl

theorem withPorts_withPorts (Q : Table 3 Port) : (s.withPorts P).withPorts Q = s.withPorts Q := rfl

theorem setPort_eq_withPorts (p : Port) : s.setPort h p = s.withPorts (s.ports.put h p) := rfl

/-! ### What the records of the other blocks are, and how they are replaced -/

@[simp] theorem withPorts_jobs : (s.withPorts P).jobs = s.jobs := rfl
@[simp] theorem withPorts_ready : (s.withPorts P).ready = s.ready := rfl
@[simp] theorem withPorts_marker : (s.withPorts P).marker = s.marker := rfl
@[simp] theorem withPorts_converter : (s.withPorts P).converter = s.converter := rfl
@[simp] theorem withPorts_completion : (s.withPorts P).completion = s.completion := rfl
@[simp] theorem withPorts_session : (s.withPorts P).session h = s.session h := rfl
@[simp] theorem withPorts_resultQueue : (s.withPorts P).resultQueue h = s.resultQueue h := rfl
@[simp] theorem withPorts_noticeQueue : (s.withPorts P).noticeQueue h = s.noticeQueue h := rfl
@[simp] theorem withPorts_generator (x : GeneratorId) : (s.withPorts P).generator x = s.generator x := rfl
@[simp] theorem withPorts_watch (x : WatchId) : (s.withPorts P).watch x = s.watch x := rfl
@[simp] theorem withPorts_account : (s.withPorts P).account h c = s.account h c := rfl
@[simp] theorem withPorts_findJob (id : JobId) : (s.withPorts P).findJob id = s.findJob id := rfl
@[simp] theorem withPorts_executes (id : JobId) : (s.withPorts P).executes id = s.executes id := rfl
@[simp] theorem withPorts_chosenClass : (s.withPorts P).chosenClass = s.chosenClass := rfl
@[simp] theorem withPorts_chosenJob : (s.withPorts P).chosenJob c = s.chosenJob c := rfl
@[simp] theorem withPorts_selectionWaits : (s.withPorts P).selectionWaits = s.selectionWaits := rfl
@[simp] theorem withPorts_urgentWaits : (s.withPorts P).urgentWaits = s.urgentWaits := rfl
@[simp] theorem withPorts_sessionRefusal : (s.withPorts P).sessionRefusal h = s.sessionRefusal h := rfl

@[simp] theorem withPorts_setSession (x : Session) :
    (s.withPorts P).setSession h x = (s.setSession h x).withPorts P := rfl
@[simp] theorem withPorts_setResultQueue (q : ResultQueue) :
    (s.withPorts P).setResultQueue h q = (s.setResultQueue h q).withPorts P := rfl
@[simp] theorem withPorts_setNoticeQueue (q : NoticeQueue) :
    (s.withPorts P).setNoticeQueue h q = (s.setNoticeQueue h q).withPorts P := rfl
@[simp] theorem withPorts_setGenerator (i : GeneratorId) (x : Generator) :
    (s.withPorts P).setGenerator i x = (s.setGenerator i x).withPorts P := rfl
@[simp] theorem withPorts_setWatch (i : WatchId) (x : Watch) :
    (s.withPorts P).setWatch i x = (s.setWatch i x).withPorts P := rfl
@[simp] theorem withPorts_setJobs (jobs : List Job) :
    (s.withPorts P).setJobs jobs = (s.setJobs jobs).withPorts P := rfl
@[simp] theorem withPorts_setReady (ids : List JobId) :
    (s.withPorts P).setReady c ids = (s.setReady c ids).withPorts P := rfl
@[simp] theorem withPorts_setMarker (m : Option JobId) :
    (s.withPorts P).setMarker c m = (s.setMarker c m).withPorts P := rfl
@[simp] theorem withPorts_setRotation :
    (s.withPorts P).setRotation c h = (s.setRotation c h).withPorts P := rfl
@[simp] theorem withPorts_updateJob (id : JobId) (f : Job → Job) :
    (s.withPorts P).updateJob id f = (s.updateJob id f).withPorts P := rfl
@[simp] theorem withPorts_makeReady (id : JobId) :
    (s.withPorts P).makeReady id c = (s.makeReady id c).withPorts P := rfl
@[simp] theorem withPorts_setAccount (a : Option Nat) :
    (s.withPorts P).setAccount h c a = (s.setAccount h c a).withPorts P := rfl
@[simp] theorem withPorts_abort : (s.withPorts P).abort = s.abort.withPorts P := rfl
@[simp] theorem withPorts_testStale : (s.withPorts P).testStale h = (s.testStale h).withPorts P := rfl
@[simp] theorem withPorts_restartLease : (s.withPorts P).restartLease h = (s.restartLease h).withPorts P := rfl
@[simp] theorem withPorts_leave (x : CompletionShare) :
    (s.withPorts P).leave x = (s.leave x).withPorts P := rfl
@[simp] theorem withPorts_withoutHost (ended : SessionState) :
    (s.withPorts P).withoutHost h ended = (s.withoutHost h ended).withPorts P := rfl

/-- A choice between two states commutes with the replacement of the ports. -/
theorem ite_withPorts (p : Prop) [Decidable p] (t u : State) :
    (if p then t.withPorts P else u.withPorts P) = (if p then t else u).withPorts P :=
  (apply_ite (withPorts · P) p t u).symm

/-- A sequence of steps that each commute with the replacement of the ports does. -/
theorem foldl_withPorts {α : Type} {f : State → α → State}
    (hf : ∀ s a, f (s.withPorts P) a = (f s a).withPorts P) (l : List α) :
    l.foldl f (s.withPorts P) = (l.foldl f s).withPorts P := by
  induction l generalizing s with
  | nil => rfl
  | cons a l ih => rw [List.foldl_cons, List.foldl_cons, hf, ih]

/-! ### Notices, the scheduler and the converter -/

@[simp] theorem withPorts_post (kind : NoticeKind) (subject : Byte) (detail : Nat) :
    (s.withPorts P).post h kind subject detail = (s.post h kind subject detail).withPorts P := by
  unfold post
  rw [withPorts_session, withPorts_noticeQueue, withPorts_setNoticeQueue, ite_withPorts]
  exact rfl

@[simp] theorem withPorts_startConversion (id : JobId) :
    (s.withPorts P).startConversion id = (s.startConversion id).withPorts P := by
  unfold startConversion
  rw [withPorts_findJob]
  cases s.findJob id with
  | none => rfl
  | some j =>
    dsimp only
    cases j.entries[j.cursor]? <;> rfl

@[simp] theorem withPorts_resume (id : JobId) : (s.withPorts P).resume id = (s.resume id).withPorts P := by
  simp only [resume, withPorts_updateJob, withPorts_startConversion]

@[simp] theorem withPorts_reserve (j : Job) : (s.withPorts P).reserve j = (s.reserve j).withPorts P := by
  unfold reserve
  rw [withPorts_session, withPorts_setAccount, ite_withPorts]

@[simp] theorem withPorts_grant (j : Job) : (s.withPorts P).grant j = (s.grant j).withPorts P := by
  simp only [grant, withPorts_ready, withPorts_setReady, withPorts_setMarker, withPorts_setRotation,
    withPorts_reserve, withPorts_updateJob, withPorts_startConversion]

@[simp] theorem withPorts_serve : (s.withPorts P).serve c = (s.serve c).withPorts P := by
  unfold serve
  simp only [withPorts_jobs, withPorts_setJobs, withPorts_marker, withPorts_chosenJob]
  cases (s.setJobs (s.jobs.map (Job.yieldTo c))).marker.get c with
  | some id => exact withPorts_resume ..
  | none =>
    dsimp only
    cases (s.setJobs (s.jobs.map (Job.yieldTo c))).chosenJob c with
    | some j => exact withPorts_grant ..
    | none => rfl

@[simp] theorem withPorts_select : (s.withPorts P).select = s.select.withPorts P := by
  unfold select
  rw [withPorts_selectionWaits, withPorts_converter, withPorts_chosenClass, ← ite_withPorts]
  cases s.converter with
  | some ctx => rfl
  | none =>
    cases s.chosenClass with
    | none => rfl
    | some c => exact congrArg _ (withPorts_serve s P c)

@[simp] theorem withPorts_preempt : (s.withPorts P).preempt = s.preempt.withPorts P := by
  unfold preempt
  rw [withPorts_converter]
  cases s.converter <;> rfl

@[simp] theorem withPorts_schedule : (s.withPorts P).schedule = s.schedule.withPorts P := by
  simp only [schedule, withPorts_urgentWaits, withPorts_preempt, ite_withPorts, withPorts_select]

@[simp] theorem withPorts_removeJob (j : Job) :
    (s.withPorts P).removeJob j = (s.removeJob j).withPorts P := by
  unfold removeJob
  dsimp only
  rw [withPorts_ready, withPorts_setReady, withPorts_executes, withPorts_abort, ite_withPorts,
    withPorts_setMarker, withPorts_setAccount, ite_withPorts]
  exact rfl

@[simp] theorem withPorts_withdraw (j : Job) : (s.withPorts P).withdraw j = (s.withdraw j).withPorts P := by
  simp only [withdraw, withPorts_removeJob, withPorts_schedule, ite_withPorts]

@[simp] theorem withPorts_admitJob (j : Job) : (s.withPorts P).admitJob j = (s.admitJob j).withPorts P := by
  simp only [admitJob, withPorts_jobs, withPorts_setJobs, withPorts_ready, withPorts_setReady,
    withPorts_schedule, ite_withPorts]

@[simp] theorem withPorts_replaceOptions (o : HostOptions) :
    (s.withPorts P).replaceOptions h o = (s.replaceOptions h o).withPorts P := by
  simp only [replaceOptions, withPorts_session, withPorts_setSession, withPorts_restartLease,
    withPorts_testStale, withPorts_schedule, ite_withPorts]

/-! ### Result queues, arrivals and generators -/

@[simp] theorem withPorts_appendRecord (r : ResultRecord) :
    (s.withPorts P).appendRecord h r = (s.appendRecord h r).withPorts P := by
  unfold appendRecord
  dsimp only
  rw [withPorts_resultQueue, withPorts_setResultQueue, withPorts_testStale, ite_withPorts]

@[simp] theorem withPorts_offer (id : JobId) (r : ResultRecord) :
    (s.withPorts P).offer id c r = (s.offer id c r).withPorts P := by
  unfold offer
  simp only [withPorts_resultQueue, withPorts_setAccount, withPorts_appendRecord, withPorts_updateJob,
    withPorts_setResultQueue]
  cases (s.resultQueue id.owner).placement c <;> rfl

@[simp] theorem withPorts_overrun (j : Job) : (s.withPorts P).overrun j = (s.overrun j).withPorts P := by
  simp only [overrun, withPorts_post, ite_withPorts, withPorts_updateJob]

@[simp] theorem withPorts_acceptRestart (j : Job) :
    (s.withPorts P).acceptRestart j = (s.acceptRestart j).withPorts P := by
  unfold acceptRestart
  dsimp only
  rw [withPorts_executes, withPorts_abort, ite_withPorts, withPorts_updateJob]

@[simp] theorem withPorts_restartPass (j : Job) :
    (s.withPorts P).restartPass j = (s.restartPass j).withPorts P := by
  unfold restartPass
  simp only [withPorts_executes, withPorts_overrun, withPorts_account, withPorts_acceptRestart,
    withPorts_resultQueue, withPorts_setAccount, ite_withPorts]
  rw [← ite_withPorts]
  cases s.account j.id.owner j.cls <;> rfl

@[simp] theorem withPorts_holdArrival (j : Job) :
    (s.withPorts P).holdArrival j = (s.holdArrival j).withPorts P := by
  simp only [holdArrival, withPorts_overrun, withPorts_updateJob, ite_withPorts]

@[simp] theorem withPorts_arrival (id : JobId) : (s.withPorts P).arrival id = (s.arrival id).withPorts P := by
  unfold arrival
  rw [withPorts_findJob]
  cases s.findJob id with
  | none => rfl
  | some j =>
    simp only [withPorts_makeReady, withPorts_overrun, withPorts_holdArrival, withPorts_restartPass]
    cases j.state <;> cases j.policy <;> rfl

@[simp] theorem withPorts_deliver (hits : Source → Bool) :
    (s.withPorts P).deliver hits = (s.deliver hits).withPorts P :=
  foldl_withPorts s P (fun s id => withPorts_arrival s P id) _

@[simp] theorem withPorts_fireGenerator (g : GeneratorId) :
    (s.withPorts P).fireGenerator g = (s.fireGenerator g).withPorts P := by
  unfold fireGenerator
  simp only [withPorts_generator, withPorts_setGenerator, withPorts_deliver, withPorts_post]
  rw [← ite_withPorts]
  generalize ((s.setGenerator g { s.generator g with firings := (s.generator g).firings + 1 }).deliver
    (generatorHits g)).generator g = x
  cases x.owner <;> rfl

@[simp] theorem withPorts_enterDelaying (g : GeneratorId) :
    (s.withPorts P).enterDelaying g = (s.enterDelaying g).withPorts P := by
  simp only [enterDelaying, withPorts_generator, withPorts_setGenerator, withPorts_fireGenerator, ite_withPorts]

@[simp] theorem withPorts_startGenerator (g : GeneratorId) :
    (s.withPorts P).startGenerator g = (s.startGenerator g).withPorts P := by
  unfold startGenerator
  simp only [withPorts_generator, withPorts_setGenerator, withPorts_enterDelaying, withPorts_schedule]
  cases (s.generator g).start <;> rfl

/-! ### The shares of a completion and the teardown -/

@[simp] theorem withPorts_evaluate (w : WatchId) (v : Code) :
    (s.withPorts P).evaluate w h v = (s.evaluate w h v).withPorts P := by
  simp only [evaluate, withPorts_watch, withPorts_setWatch, withPorts_post, withPorts_deliver, ite_withPorts]

@[simp] theorem withPorts_offerWatch (r : Report) (w : WatchId) :
    (s.withPorts P).offerWatch r w = (s.offerWatch r w).withPorts P := by
  unfold offerWatch
  simp only [withPorts_watch, withPorts_evaluate, ite_withPorts]
  cases (s.watch w).owner <;> rfl

@[simp] theorem withPorts_watchShare (r : Report) :
    (s.withPorts P).watchShare r = (s.watchShare r).withPorts P := by
  unfold watchShare
  cases r.kind with
  | convert => exact foldl_withPorts s P (fun s w => withPorts_offerWatch s P r w) _
  | compare => rfl

@[simp] theorem withPorts_dispose (j : Job) : (s.withPorts P).dispose j = (s.dispose j).withPorts P := by
  simp only [dispose, withPorts_post, withPorts_jobs, withPorts_setJobs, withPorts_updateJob,
    withPorts_makeReady, ite_withPorts]

@[simp] theorem withPorts_endPass (j : Job) : (s.withPorts P).endPass j = (s.endPass j).withPorts P := by
  simp only [endPass, withPorts_updateJob, withPorts_post, ite_withPorts, withPorts_setMarker,
    withPorts_setAccount, withPorts_dispose]

@[simp] theorem withPorts_jobShare (r : Report) :
    (s.withPorts P).jobShare r = (s.jobShare r).withPorts P := by
  unfold jobShare
  rw [withPorts_findJob]
  cases s.findJob r.job with
  | none => rfl
  | some j =>
    simp only [withPorts_offer, ite_withPorts, withPorts_findJob, withPorts_endPass, withPorts_updateJob]
    generalize (if j.dest = .queue then
      s.offer j.id j.cls (j.record r (decide (j.entries.length ≤ j.cursor + 1))) else s) = u
    cases u.findJob r.job <;> rfl

@[simp] theorem withPorts_takeJobShare : (s.withPorts P).takeJobShare = s.takeJobShare.withPorts P := by
  unfold takeJobShare
  simp only [withPorts_completion, withPorts_jobShare, withPorts_updateJob, withPorts_leave, ite_withPorts]
  cases s.completion <;> rfl

@[simp] theorem withPorts_takeShare (x : CompletionShare) :
    (s.withPorts P).takeShare x = (s.takeShare x).withPorts P := by
  unfold takeShare
  rw [withPorts_completion]
  cases s.completion with
  | none => rfl
  | some c =>
    cases x with
    | watch => simp only [withPorts_leave, withPorts_watchShare, withPorts_schedule, ite_withPorts]
    | job => simp only [withPorts_takeJobShare, ite_withPorts]
    | select => simp only [withPorts_leave, withPorts_schedule, ite_withPorts]

@[simp] theorem withPorts_takeShares (shares : List CompletionShare) :
    (s.withPorts P).takeShares shares = (s.takeShares shares).withPorts P :=
  foldl_withPorts s P (fun s x => withPorts_takeShare s P x) _

@[simp] theorem withPorts_settle (shares : List CompletionShare) (removed : JobId → Bool) :
    (s.withPorts P).settle shares removed = (s.settle shares removed).withPorts P := by
  unfold settle
  simp only [withPorts_completion, withPorts_takeShares, ite_withPorts]
  cases s.completion <;> rfl

@[simp] theorem withPorts_announceLeft (detail : Nat) :
    (s.withPorts P).announceLeft h detail = (s.announceLeft h detail).withPorts P :=
  foldl_withPorts s P (fun s g => withPorts_post s P g ..) _

@[simp] theorem withPorts_teardown (ended : SessionState) :
    (s.withPorts P).teardown h ended = (s.teardown h ended).withPorts P := by
  simp only [teardown_eq, withPorts_settle, withPorts_withoutHost, withPorts_announceLeft, withPorts_select]

end State

end Sys2Proof.Machine

/-! PROOFS. The judgement of a write-type frame does not look at the ports (sections 9.1, 9.2). -/

namespace Sys2Proof.Machine

/-- A judgement's result with other port records. -/
def withPortsOf (P : Table 3 Port) (r : CmdOutcome × State) : CmdOutcome × State := (r.1, r.2.withPorts P)

/-! ### A judgement does not look at the ports -/

section
variable (s : State) (P : Table 3 Port) (h : HostId)

theorem judge_withPorts {α : Type} (fits : Bool) (p : Option α) {act act' : α → CmdOutcome × State}
    (hact : ∀ a, act' a = withPortsOf P (act a)) :
    (s.withPorts P).judge h fits p act' = withPortsOf P (s.judge h fits p act) := by
  unfold State.judge
  rw [State.withPorts_sessionRefusal]
  cases fits with
  | false => rfl
  | true =>
    cases s.sessionRefusal h with
    | some o => rfl
    | none =>
      cases p with
      | none => rfl
      | some a => exact hact a

/-- A choice between two judgements commutes with the replacement of the ports. -/
theorem ite_withPortsOf {p : Prop} [Decidable p] {r q r' q' : CmdOutcome × State} (hr : r' = withPortsOf P r)
    (hq : q' = withPortsOf P q) : (if p then r' else q') = withPortsOf P (if p then r else q) := by
  rw [hr, hq, apply_ite (withPortsOf P)]

theorem judgeAttach_withPorts (params : List Byte) :
    judgeAttach h params (s.withPorts P) = withPortsOf P (judgeAttach h params s) := by
  rw [judgeAttach_eq, judgeAttach_eq]
  refine ite_withPortsOf P rfl (ite_withPortsOf P rfl ?_)
  cases attachOptions params <;> rfl

theorem judgeSubmitJob_withPorts (params : List Byte) :
    judgeSubmitJob h params (s.withPorts P) = withPortsOf P (judgeSubmitJob h params s) := by
  exact judge_withPorts s P h _ _ fun j =>
    ite_withPortsOf P rfl (ite_withPortsOf P (congrArg _ (State.withPorts_admitJob ..)) rfl)

theorem judgeWithdrawJob_withPorts (params : List Byte) :
    judgeWithdrawJob h params (s.withPorts P) = withPortsOf P (judgeWithdrawJob h params s) := by
  refine judge_withPorts s P h _ _ fun tag => ?_
  dsimp only
  rw [State.withPorts_settle, State.withPorts_findJob]
  cases (s.settle [.job] (· == ⟨h, tag⟩)).findJob ⟨h, tag⟩ with
  | none => rfl
  | some j => exact congrArg _ (State.withPorts_withdraw ..)

theorem judgeStartTrigger_withPorts (params : List Byte) :
    judgeStartTrigger h params (s.withPorts P) = withPortsOf P (judgeStartTrigger h params s) := by
  exact judge_withPorts s P h _ _ fun g =>
    ite_withPortsOf P (ite_withPortsOf P (congrArg _ (State.withPorts_startGenerator ..)) rfl) rfl

/-- The judgement of a frame's end neither reads nor writes a port. -/
theorem judgeWrite_withPorts (c : Command) (params : List Byte) :
    judgeWrite c h params (s.withPorts P) = withPortsOf P (judgeWrite c h params s) := by
  cases c with
  | attach => exact judgeAttach_withPorts ..
  | detach => exact judge_withPorts s P h _ _ fun _ => congrArg _ (State.withPorts_teardown ..)
  | setHostOptions => exact judge_withPorts s P h _ _ fun _ => congrArg _ (State.withPorts_replaceOptions ..)
  | submitJob => exact judgeSubmitJob_withPorts ..
  | withdrawJob => exact judgeWithdrawJob_withPorts ..
  | startTrigger => exact judgeStartTrigger_withPorts ..
  | claimChannel => exact judge_withPorts s P h _ _ fun _ => ite_withPortsOf P rfl rfl
  | releaseChannel => exact judge_withPorts s P h _ _ fun _ => ite_withPortsOf P rfl rfl
  | configureChannel => exact judge_withPorts s P h _ _ fun _ => ite_withPortsOf P rfl rfl
  | claimTrigger => exact judge_withPorts s P h _ _ fun _ => ite_withPortsOf P rfl rfl
  | releaseTrigger => exact judge_withPorts s P h _ _ fun _ => ite_withPortsOf P rfl rfl
  | programTrigger =>
    exact judge_withPorts s P h _ _ fun _ => ite_withPortsOf P (ite_withPortsOf P rfl rfl) rfl
  | stopTrigger => exact judge_withPorts s P h _ _ fun _ => ite_withPortsOf P rfl rfl
  | setWatch => exact judge_withPorts s P h _ _ fun _ => ite_withPortsOf P rfl rfl
  | clearWatch => exact judge_withPorts s P h _ _ fun _ => ite_withPortsOf P rfl rfl
  | readStatus | readJob | drainResults | readNotices | readChannel | readTrigger | readWatch => rfl

theorem judgeWrite_ports (c : Command) (params : List Byte) :
    (judgeWrite c h params s).2.ports = s.ports := by
  have e := judgeWrite_withPorts s s.ports h c params
  rw [State.withPorts_ports] at e
  rw [e]
  exact rfl

end

end Sys2Proof.Machine

/-! PROOFS. A frame sent byte by byte has the effect of its command row (sections 9.1, 9.2, 9.4): the bytes
move the port alone, and the one judgement that they lead to finds the state that the row finds. -/

namespace Sys2Proof.Machine

/-! ### Where the lengths of a frame are known (R158, R170, R177) -/

/-- A frame longer than the greatest length its first bytes allow fails the length check. -/
theorem lengthOk_of_overrun {c : Command} {l m : List Byte} (hm : m ≠ [])
    (hl : greatestLength c l ≤ l.length) : lengthOk c (l ++ m) = false := by
  have hlong : l.length < (l ++ m).length := by
    have := List.length_pos_iff.mpr hm
    rw [List.length_append]
    omega
  have other (hr : requiredLength c (l ++ m) = some (greatestLength c l)) : lengthOk c (l ++ m) = false := by
    unfold lengthOk
    rw [hr, beq_eq_false_iff_ne, Ne, Option.some.injEq]
    omega
  cases c with
  | attach =>
    refine other ?_
    cases l with
    | nil => simp [greatestLength] at hl
    | cons b l => rfl
  | submitJob =>
    refine other ?_
    rw [greatestLength_submitJob] at hl
    have hsome : 10 < l.length := by
      by_contra hshort
      rw [List.getElem?_eq_none (by omega)] at hl
      dsimp only at hl
      omega
    unfold greatestLength requiredLength submitLength
    dsimp only
    rw [List.getElem?_append_left hsome, List.getElem?_eq_getElem hsome]
    exact rfl
  | _ => exact other rfl

theorem lengthOk_iff_required (c : Command) (l : List Byte) :
    lengthOk c l = true ↔ requiredLength c l = some l.length := beq_iff_eq

/-- Read Status takes no parameter byte, every other read-type command one (R177). -/
theorem greatestLength_of_read {c : Command} (hr : c.isRead = true) (l : List Byte) :
    greatestLength c l = if c = .readStatus then 0 else 1 := by
  cases c <;> cases hr <;> rfl

theorem requiredLength_of_read {c : Command} (hr : c.isRead = true) (l : List Byte) :
    requiredLength c l = some (if c = .readStatus then 0 else 1) := by
  cases c <;> cases hr <;> rfl

theorem judgeWrite_wrong_length {c : Command} {params : List Byte} (hr : c.isRead = false)
    (hl : lengthOk c params = false) (h : HostId) (s : State) : judgeWrite c h params s = (.frameError, s) := by
  by_cases ha : c = .attach
  · subst ha
    exact if_neg (by simp [hl])
  · obtain ⟨α, p, act, hj, -⟩ := judgeWrite_eq_judge hr ha h params s
    rw [hj, hl, State.judge_wrong_length]

/-! ### The port within a frame -/

/-- The port record as the beginning of a frame leaves it (R158, R160, R168). -/
def State.openedPort (s : State) (h : HostId) : Port :=
  { phase := .command, statusCapture := some (s.statusByte h), lastOutcome := (s.port h).lastOutcome }

/-- The port has taken the command byte of `c` and these parameter bytes, and refused none. -/
structure Port.Taking (p : Port) (c : Command) (l : List Byte) : Prop where
  phase : p.phase = .parameters
  command : p.command = some c.code
  params : p.params = l
  required : p.required = requiredLength c l
  pending : p.pendingOutcome = none
  readPhase : p.readPhase = .notBegun

/-- The port has refused a byte of the frame of `c`, with this outcome pending. -/
structure Port.Refused (p : Port) (c : Command) (o : CmdOutcome) : Prop where
  phase : p.phase = .discarding
  command : p.command = some c.code
  pending : p.pendingOutcome = some o

namespace State

variable {s : State} {h : HostId} {c : Command} {p : Port}

theorem setPort_setPort (s : State) (h : HostId) (p q : Port) : (s.setPort h p).setPort h q = s.setPort h q := by
  simp only [setPort_eq_withPorts, withPorts_withPorts]
  exact congrArg s.withPorts (Table.put_put ..)

/-! ### What the end of a frame finds of the port (R159) -/

theorem renewLease_setPort (s : State) (h : HostId) (p : Port) (o : CmdOutcome) :
    (s.setPort h p).renewLease h o = (s.renewLease h o).setPort h p := by
  unfold renewLease
  rw [setPort_session]
  split <;> rfl

theorem finishFrame_eq (s : State) (h : HostId) (o : CmdOutcome) :
    s.finishFrame h o = (s.renewLease h o).setPort h { lastOutcome := o } := by
  unfold finishFrame recordOutcome idlePort
  rw [renewLease_setPort, setPort_port_self, setPort_setPort]

/-- The end of a frame overwrites whatever the port held. -/
theorem finishFrame_setPort (s : State) (h : HostId) (p : Port) (o : CmdOutcome) :
    (s.setPort h p).finishFrame h o = s.finishFrame h o := by
  rw [finishFrame_eq, finishFrame_eq, renewLease_setPort, setPort_setPort]

/-- A frame judged at its end has the effect of its judgement on the state before it. -/
theorem judged_setPort (s : State) (h : HostId) (p : Port) (c : Command) (params : List Byte) :
    (judgeWrite c h params (s.setPort h p)).2.finishFrame h (judgeWrite c h params (s.setPort h p)).1 =
      (judgeWrite c h params s).2.finishFrame h (judgeWrite c h params s).1 := by
  rw [setPort_eq_withPorts, judgeWrite_withPorts]
  unfold withPortsOf
  dsimp only
  rw [← judgeWrite_ports s h c params, ← setPort_eq_withPorts, finishFrame_setPort]

theorem endFrame_taking {params : List Byte} (hp : p.Taking c params) (hr : c.isRead = false) :
    (s.setPort h p).endFrame h false =
      (judgeWrite c h params s).2.finishFrame h (judgeWrite c h params s).1 := by
  have hself : (s.setPort h p).port h = p := setPort_port_self ..
  rw [endFrame_command (by rw [hself, hp.phase]; decide) (by rw [hself, hp.command]),
    endCommand_known (by rw [hself, hp.pending]), hself, hp.required, hp.params, if_neg (by simp [hr])]
  by_cases hl : requiredLength c params = some params.length
  · rw [if_neg (by simp [hl]), judged_setPort]
  · have hbad : lengthOk c params = false := by
      rw [Bool.eq_false_iff]
      exact fun h => hl ((lengthOk_iff_required ..).mp h)
    rw [if_pos (.inr hl), judgeWrite_wrong_length hr hbad, finishFrame_setPort]

theorem endFrame_refused {o : CmdOutcome} (hp : p.Refused c o) :
    (s.setPort h p).endFrame h false = s.finishFrame h o := by
  have hself : (s.setPort h p).port h = p := setPort_port_self ..
  rw [endFrame_command (by rw [hself, hp.phase]; decide) (by rw [hself, hp.command])]
  unfold endCommand
  dsimp only
  rw [hself, hp.pending]
  exact s.finishFrame_setPort h p o

/-! ### The judgement of a read-type command within its frame (R164, R169) -/

/-- What a frame has kept of the port up to the judgement of a read-type command. -/
structure Awake (s : State) (h : HostId) (p : Port) : Prop where
  capture : p.statusCapture = some (s.statusByte h)
  pending : p.pendingOutcome = none
  readPhase : p.readPhase = .notBegun
  outcome : p.lastOutcome = (s.port h).lastOutcome
  unsent : h = 2 → p.lastSent = none

theorem answerRead_setPort (c : Command) (params : List Byte) (ho : p.lastOutcome = (s.port h).lastOutcome) :
    answerRead c h params (s.setPort h p) = answerRead c h params s := by
  cases c with
  | readStatus =>
    unfold answerRead answerReadStatus statusReply
    dsimp only
    rw [setPort_port_self, ho]
    exact rfl
  | _ => exact rfl

/-- The reply fixed within the frame is the reply that the row fixes. -/
theorem fixReply_setPort (hidle : s.port h = { lastOutcome := (s.port h).lastOutcome }) (hp : s.Awake h p)
    (c : Command) (params : List Byte) :
    (s.setPort h p).fixReply h c params (answerRead c h params (s.setPort h p)) =
      s.fixReply h c params (answerRead c h params s) := by
  rw [answerRead_setPort c params hp.outcome]
  unfold fixReply
  dsimp only
  rw [setPort_port_self, setPort_setPort, hp.capture, hp.pending, hp.readPhase, hidle]
  by_cases h2 : h = 2
  · rw [hp.unsent h2]
    exact rfl
  · have hspi : isSpi h = true := by simpa [isSpi] using h2
    rw [hspi]
    exact rfl

/-! ### The bytes of a frame (R162, R163, R169, R170) -/

theorem openedPort_awake (s : State) (h : HostId) : s.Awake h (s.openedPort h) :=
  ⟨rfl, rfl, rfl, rfl, fun _ => rfl⟩

/-- The port record once the command byte of `c` has been taken. -/
def commandPort (s : State) (h : HostId) (c : Command) : Port :=
  { (s.openedPort h).clocked h with
    phase := .parameters, command := some c.code, required := requiredLength c [] }

theorem commandPort_awake (s : State) (h : HostId) (c : Command) : s.Awake h (s.commandPort h c) := by
  have hsent := (s.openedPort h).clocked_sent h
  unfold commandPort
  rw [Port.clocked_eq]
  refine ⟨rfl, rfl, rfl, rfl, fun h2 => ?_⟩
  rw [if_pos h2] at hsent
  exact hsent.2

theorem commandPort_taking (s : State) (h : HostId) (c : Command) : (s.commandPort h c).Taking c [] := by
  unfold commandPort
  rw [Port.clocked_eq]
  exact ⟨rfl, rfl, rfl, rfl, rfl, rfl⟩

theorem opened_writeByte (hearly : ¬ (h = 2 ∧ c = .submitJob ∧ s.refusesEarly = true)) :
    (s.setPort h (s.openedPort h)).writeByte h c.code =
      (s.setPort h (s.openedPort h)).takeCommand h c.code := by
  have hself : (s.setPort h (s.openedPort h)).port h = s.openedPort h := setPort_port_self ..
  have htake : (s.setPort h (s.openedPort h)).acceptByte h c.code =
      (s.setPort h (s.openedPort h)).takeCommand h c.code := by
    unfold acceptByte
    rw [hself]
    exact rfl
  rw [← htake]
  by_cases h2 : h = 2
  · subst h2
    refine writeByte_accepts (.inr ⟨?_, ?_⟩)
    · unfold i2cWrites
      rw [hself]
      exact rfl
    · rw [refusalOf_command (by rw [hself]; exact rfl), Command.ofCode_code, if_neg (by simp), if_neg]
      rintro ⟨hcode, hslot⟩
      have hc : c = .submitJob := by
        have := (Command.ofCode_eq_some_iff c.code .submitJob).mpr hcode
        rw [Command.ofCode_code] at this
        exact Option.some.inj this
      exact hearly ⟨rfl, hc, (refusesEarly_iff s).mpr hslot⟩
  · exact writeByte_accepts (.inl h2)

theorem opened_writeByte_known (hc : c ≠ .readStatus)
    (hearly : ¬ (h = 2 ∧ c = .submitJob ∧ s.refusesEarly = true)) :
    (s.setPort h (s.openedPort h)).writeByte h c.code = s.setPort h (s.commandPort h c) := by
  rw [opened_writeByte hearly, takeCommand_known (Command.ofCode_code c) hc, setPort_port_self, setPort_setPort]
  exact rfl

/-- The early refusal of Submit Job at its command byte (R17, R170). -/
theorem opened_writeByte_early (he : s.refusesEarly = true) :
    ∃ q : Port, q.Refused .submitJob .noSlot ∧
      (s.setPort 2 (s.openedPort 2)).writeByte 2 Command.submitJob.code = s.setPort 2 q := by
  have hself : (s.setPort 2 (s.openedPort 2)).port 2 = s.openedPort 2 := setPort_port_self ..
  have hw : (s.setPort 2 (s.openedPort 2)).i2cWrites = true := by
    unfold i2cWrites
    rw [hself]
    exact rfl
  have hr : (s.setPort 2 (s.openedPort 2)).refusalOf Command.submitJob.code = some .noSlot := by
    rw [refusalOf_command (by rw [hself]; exact rfl), Command.ofCode_code, if_neg (by simp),
      if_pos ⟨rfl, (refusesEarly_iff s).mp he⟩]
  unfold writeByte
  rw [if_neg (by decide), if_pos hw, hr]
  unfold refuseByte
  dsimp only
  rw [hself, setPort_setPort]
  exact ⟨_, ⟨rfl, rfl, rfl⟩, rfl⟩

theorem taking_refusalOf {l : List Byte} (hp : p.Taking c l) (b : Byte) :
    (s.setPort 2 p).refusalOf b = if greatestLength c l ≤ l.length then some .frameError else none := by
  unfold refusalOf
  dsimp only
  rw [setPort_port_self, hp.phase, hp.command, hp.params, Option.bind_some, Command.ofCode_code]

theorem taking_i2cWrites {l : List Byte} (hp : p.Taking c l) : (s.setPort 2 p).i2cWrites = true := by
  unfold i2cWrites
  rw [setPort_port_self, hp.phase, hp.readPhase]
  exact rfl

theorem taking_writeByte {l : List Byte} (hp : p.Taking c l) (hfits : h = 2 → l.length < greatestLength c l)
    (b : Byte) : (s.setPort h p).writeByte h b = (s.setPort h p).takeParam h b := by
  have htake : (s.setPort h p).acceptByte h b = (s.setPort h p).takeParam h b := by
    unfold acceptByte
    rw [setPort_port_self, hp.phase]
  rw [← htake]
  by_cases h2 : h = 2
  · subst h2
    exact writeByte_accepts (.inr ⟨taking_i2cWrites hp, by
      rw [taking_refusalOf hp, if_neg (Nat.not_le.mpr (hfits rfl))]⟩)
  · exact writeByte_accepts (.inl h2)

theorem taking_writeByte_taken {l : List Byte} (hp : p.Taking c l) (hr : c.isRead = false)
    (hfits : h = 2 → l.length < greatestLength c l) (b : Byte) :
    ∃ q : Port, q.Taking c (l ++ [b]) ∧ (s.setPort h p).writeByte h b = s.setPort h q := by
  have hself : (s.setPort h p).port h = p := setPort_port_self ..
  rw [taking_writeByte hp hfits, takeParam_write (by rw [hself, hp.command]) hr, hself, setPort_setPort,
    hp.params, Port.clocked_eq]
  refine ⟨_, ?_, rfl⟩
  exact ⟨hp.phase, hp.command, rfl, rfl, hp.pending, hp.readPhase⟩

theorem taking_writeByte_refused {l : List Byte} (hp : p.Taking c l) (hover : greatestLength c l ≤ l.length)
    (b : Byte) :
    ∃ q : Port, q.Refused c .frameError ∧ (s.setPort 2 p).writeByte 2 b = s.setPort 2 q := by
  have hself : (s.setPort 2 p).port 2 = p := setPort_port_self ..
  unfold writeByte
  rw [if_neg (by decide), if_pos (taking_i2cWrites hp), taking_refusalOf hp, if_pos hover]
  unfold refuseByte
  dsimp only
  rw [hself, setPort_setPort, hp.command]
  exact ⟨_, ⟨rfl, rfl, rfl⟩, rfl⟩

theorem refused_writeByte {o : CmdOutcome} (hp : p.Refused c o) (b : Byte) :
    (s.setPort h p).writeByte h b = s.setPort h p := by
  have hself : (s.setPort h p).port h = p := setPort_port_self ..
  have hsame : (s.setPort h p).acceptByte h b = s.setPort h p := by
    unfold acceptByte
    rw [hself, hp.phase]
  by_cases h2 : h = 2
  · subst h2
    have hnone : (s.setPort 2 p).refusalOf b = none := by
      unfold refusalOf
      dsimp only
      rw [hself, hp.phase]
    unfold writeByte
    rw [if_neg (by decide), hnone]
    exact (ite_congr rfl (fun _ => hsame) fun _ => rfl).trans (ite_self _)
  · rw [writeByte_accepts (.inl h2), hsame]

/-! ### The parameter bytes of a write-type frame -/

theorem refused_params {o : CmdOutcome} (hp : p.Refused c o) (m : List Byte) :
    execAll (m.map (Instr.byteTaken h)) (s.setPort h p) = .next (s.setPort h p) := by
  induction m with
  | nil => rfl
  | cons b m ih => rw [List.map_cons, execAll_cons (exec_byteTaken ..), refused_writeByte hp, ih]

/-- The parameter bytes are all taken, or one is refused and the frame is too long. -/
theorem taking_params {l : List Byte} (hp : p.Taking c l) (hr : c.isRead = false) (m : List Byte) :
    ∃ q : Port, execAll (m.map (Instr.byteTaken h)) (s.setPort h p) = .next (s.setPort h q) ∧
      (q.Taking c (l ++ m) ∨ q.Refused c .frameError ∧ lengthOk c (l ++ m) = false) := by
  induction m generalizing l p with
  | nil => exact ⟨p, rfl, .inl (by rwa [List.append_nil])⟩
  | cons b m ih =>
    by_cases hover : h = 2 ∧ greatestLength c l ≤ l.length
    · obtain ⟨rfl, hover⟩ := hover
      obtain ⟨q, hq, hw⟩ := taking_writeByte_refused (s := s) hp hover b
      refine ⟨q, ?_, .inr ⟨hq, lengthOk_of_overrun (List.cons_ne_nil b m) hover⟩⟩
      rw [List.map_cons, execAll_cons (exec_byteTaken ..), hw, refused_params hq]
    · have hfits (h2 : h = 2) : l.length < greatestLength c l := Nat.not_le.mp fun hle => hover ⟨h2, hle⟩
      obtain ⟨q, hq, hw⟩ := taking_writeByte_taken (s := s) hp hr hfits b
      obtain ⟨q', hrun, hends⟩ := ih hq
      refine ⟨q', ?_, by rwa [List.append_assoc, List.singleton_append] at hends⟩
      rw [List.map_cons, execAll_cons (exec_byteTaken ..), hw, hrun]

/-! ### The whole frame -/

/-- The start of a frame on a port, and its end. -/
def frameStart (s : State) (h : HostId) : FrameStart :=
  if h = 0 then .csFall 0 else if h = 1 then .csFall 1 else .start s.i2cAddress false

def frameStop (h : HostId) : FrameStop :=
  if h = 0 then .csRise 0 false else if h = 1 then .csRise 1 false else .stop

theorem exec_frameStart (hidle : (s.port h).phase = .idle) :
    exec (.frameBegin (s.frameStart h)) s = .next (s.setPort h (s.openedPort h)) := by
  match h, hidle with
  | 0, hidle => exact if_pos hidle
  | 1, hidle => exact if_pos hidle
  | 2, hidle =>
    have hexec : exec (.frameBegin (s.frameStart 2)) s = .next (s.i2cStart s.i2cAddress false) := rfl
    rw [hexec, i2cStart_idle hidle, if_pos rfl]
    exact rfl

theorem exec_frameStop (s : State) (h : HostId) :
    exec (.frameEnd (frameStop h)) s = .next (s.endFrame h false) := by
  match h with
  | 0 => rfl
  | 1 => rfl
  | 2 => rfl

theorem execAll_frameEvents (hidle : (s.port h).phase = .idle) (params : List Byte) :
    execAll (frameEvents s h c params) s =
      execAll (params.map (Instr.byteTaken h) ++ if c.isRead then [] else [.frameEnd (frameStop h)])
        ((s.setPort h (s.openedPort h)).writeByte h c.code) :=
  (execAll_cons (exec_frameStart hidle)).trans (execAll_cons (exec_byteTaken ..))

/-- A write-type frame sent byte by byte. -/
theorem execAll_write_frame (hidle : (s.port h).phase = .idle) (hr : c.isRead = false) (params : List Byte) :
    execAll (frameEvents s h c params) s =
      .next ((judgeFrame c h params s).2.finishFrame h (judgeFrame c h params s).1) := by
  have hstop (q : Port) : execAll [.frameEnd (frameStop h)] (s.setPort h q) =
      .next ((s.setPort h q).endFrame h false) := execAll_cons (exec_frameStop ..)
  have hc : c ≠ .readStatus := by
    rintro rfl
    cases hr
  rw [execAll_frameEvents hidle, hr]
  by_cases hearly : h = 2 ∧ c = .submitJob ∧ s.refusesEarly = true
  · obtain ⟨rfl, rfl, he⟩ := hearly
    obtain ⟨q, hq, hw⟩ := opened_writeByte_early he
    have hj : judgeFrame .submitJob 2 params s = (.noSlot, s) :=
      if_pos ⟨rfl, by rw [hidle]; decide, he⟩
    rw [hw, hj, execAll_append (refused_params hq params)]
    exact (hstop q).trans (congrArg _ (endFrame_refused hq))
  · have hj : judgeFrame c h params s = judgeWrite c h params s :=
      judgeFrame_of_not_early fun hs h2 => .inr (Bool.eq_false_iff.mpr fun he => hearly ⟨h2, hs, he⟩)
    obtain ⟨q, hrun, hends⟩ := taking_params (s := s) (h := h) (s.commandPort_taking h c) hr params
    rw [opened_writeByte_known hc hearly, hj, execAll_append hrun]
    refine (hstop q).trans (congrArg _ ?_)
    rw [List.nil_append] at hends
    rcases hends with hq | ⟨hq, hl⟩
    · exact endFrame_taking hq hr
    · rw [endFrame_refused hq, judgeWrite_wrong_length hr hl]

/-- A read-type frame sent byte by byte. -/
theorem execAll_read_frame {i : Instr} {params : List Byte} (hf : frameOf i = some (h, c, params))
    (hidle : s.port h = { lastOutcome := (s.port h).lastOutcome }) (hr : c.isRead = true) :
    execAll (frameEvents s h c params) s = .next (s.fixReply h c params (answerRead c h params s)) := by
  have hphase : (s.port h).phase = .idle := by rw [hidle]
  have hearly : ¬ (h = 2 ∧ c = .submitJob ∧ s.refusesEarly = true) := by
    rintro ⟨-, rfl, -⟩
    cases hr
  have hlength : params.length = if c = .readStatus then 0 else 1 := by
    have hl := (lengthOk_iff_required ..).mp (lengthOk_of_read_row hf hr)
    rw [requiredLength_of_read hr] at hl
    exact (Option.some.inj hl).symm
  rw [execAll_frameEvents hphase, hr]
  by_cases hc : c = .readStatus
  · subst hc
    obtain rfl : params = [] := List.length_eq_zero_iff.mp (hlength.trans (if_pos rfl))
    rw [opened_writeByte hearly, takeCommand_readStatus (Command.ofCode_code .readStatus),
      fixReply_setPort hidle (s.openedPort_awake h)]
    exact rfl
  · obtain ⟨b, rfl⟩ : ∃ b, params = [b] := List.length_eq_one_iff.mp (hlength.trans (if_neg hc))
    have hfits (_ : h = 2) : ([] : List Byte).length < greatestLength c [] := by
      rw [greatestLength_of_read hr, if_neg hc]
      decide
    have hself : (s.setPort h (s.commandPort h c)).port h = s.commandPort h c := setPort_port_self ..
    have hp := s.commandPort_taking h c
    rw [opened_writeByte_known hc hearly]
    refine (execAll_cons (exec_byteTaken ..)).trans ?_
    rw [taking_writeByte hp hfits, takeParam_read (by rw [hself, hp.command]) hr, hself, hp.params,
      fixReply_setPort hidle (s.commandPort_awake h c)]
    exact rfl

end State

/-- Settles O12. -/
theorem aFrameOfBytesIsItsCommandRow : Obligations.AFrameOfBytesIsItsCommandRow := by
  intro i h c params s hf hidle
  have hphase : (s.port h).phase = .idle := by rw [hidle]
  have ha : (s.port h).awaits c = true := s.awaits_of_idle h hphase
  cases hr : c.isRead with
  | true => rw [State.execAll_read_frame hf hidle hr, exec_read_row hf hr, s.runRead_awaited h ha]
  | false => rw [State.execAll_write_frame hphase hr, exec_write_row hf hr, s.runWrite_awaited h ha]

end Sys2Proof.Machine
